-- ==== Sys2Proof/Word.lean ====
section
/-! DEFINITION. The two widths of the hardware: DATA_WIDTH 8 and ADDR_WIDTH 16 (00_scope.md R7). -/

namespace Sys2Proof

/-- A bus datum or an 8-bit register cell (R7 `DATA_WIDTH`). -/
abbrev Byte := BitVec 8

/-- A bus address, PC, SP or a register pair (R7 `ADDR_WIDTH`, `PC_WIDTH`, `SP_WIDTH`). -/
abbrev Word := BitVec 16

/-- A colour index, 2 bits (10_state.md R76). -/
abbrev Colour := BitVec 2

/-- A row of 160 colour indices, left to right (61_display_controller.md R630). -/
abbrev Row := List Colour

end Sys2Proof
end

