-- ==== Sys2Proof/Machine/Bytes.lean ====
section
/-! DEFINITION. The pure bit helpers of 00_scope.md R8 to R11. -/

namespace Sys2Proof

/-- `make16(hi, lo) = hi ++ lo` (R9). -/
def make16 (hi lo : Byte) : Word := hi ++ lo

/-- `lo8(w) = w[7:0]` (R9). -/
def lo8 (w : Word) : Byte := w.extractLsb' 0 8

/-- `hi8(w) = w[15:8]` (R9). -/
def hi8 (w : Word) : Byte := w.extractLsb' 8 8

/-- `sext_16(v)`: `v` read as a two's-complement number and written in 16 bits (R10). -/
def sext16 (v : Byte) : Word := v.signExtend 16

/-- `zext_16(v)` (R10). -/
def zext16 (v : Byte) : Word := v.setWidth 16

/-- `complement8(v) = v xor 0xFF` (R11). -/
def complement8 (v : Byte) : Byte := v ^^^ 0xFF

/-- `2^i` as a byte, for a bit index 0..7 (used by `RES`, `SET`, R422 to R425). -/
def bitMask (i : Fin 8) : Byte := BitVec.ofNat 8 (2 ^ i.val)

/-- `reverse8(v)`: bit `i` of the result is bit `7 - i` of `v` (R11). -/
def reverse8 (v : Byte) : Byte :=
  v.extractLsb' 0 1 ++ v.extractLsb' 1 1 ++ v.extractLsb' 2 1 ++ v.extractLsb' 3 1
    ++ v.extractLsb' 4 1 ++ v.extractLsb' 5 1 ++ v.extractLsb' 6 1 ++ v.extractLsb' 7 1

/-- `rotl8(v) = v[6:0] ++ v[7]` (R11). -/
def rotl8 (v : Byte) : Byte := v.extractLsb' 0 7 ++ v.extractLsb' 7 1

/-- `rotr8(v) = v[0] ++ v[7:1]` (R11). -/
def rotr8 (v : Byte) : Byte := v.extractLsb' 0 1 ++ v.extractLsb' 1 7

end Sys2Proof
end

