-- ==== Sys2Proof/Config.lean ====
section
/-! DEFINITION. The constants of this one machine (00_scope.md R7). The spec's open parameter
HALT_WAKE_SERVICES_WITHOUT_IME is plain data in State, not a constant here. The spec leaves no value of
an instruction's result open, so the only uninterpreted constants are the functions of the two external
devices, which R112 makes arguments of the model. -/

namespace Sys2Proof.Config

/-- The escape code (R7 `PREFIX_BYTE`, R160). -/
def prefixByte : Byte := 0xCB

/-- What a bus read returns when every device answers NONE (R7 `FLOATING_BUS_VALUE`, R103). -/
def floatingBus : Byte := 0xFF

/-- What is added to the primary counter each cycle (R7 `TIMER_STEP`, R554). -/
def timerStep : Word := 4

/-- Cost of an interrupt dispatch (R7 `INTERRUPT_DISPATCH_CYCLES`, R532). -/
def dispatchCycles : Nat := 5

/-- Lengths of the display modes and of a line (R7, R620). -/
def mode2Cycles : Nat := 20
def mode3Cycles : Nat := 43
def mode0Cycles : Nat := 51
def lineCycles : Nat := 114

/-- 154 lines of 114 cycles (R7 `FRAME_CYCLES`, R620). -/
def frameCycles : Nat := 17556

/-- The visible image (R7 `LCD_WIDTH`, `LCD_HEIGHT`). -/
def lcdWidth : Nat := 160
def lcdHeight : Nat := 144

/-- R7 `MAX_SPRITES_PER_LINE`, R650. -/
def maxSpritesPerLine : Nat := 10

/-- Length of a DMA quick-copy, the size of OAM (R77, R660). -/
def dmaLength : Nat := 160

/-- The first address above the address space: what every `AddressRangeFault` of an instruction
records (20_memory.md R107; notes/assumptions/6.md, DEDUCED for 3-byte instructions at 0xFFFF). -/
def addressLimit : Nat := 0x10000

/-! ## The external devices as arguments (20_memory.md R112; notes/assumptions/2.md, 3.md)

`read` and `write` of an `Ext` and of a `Joypad` that the host gives. They have no body: nothing is known
of them, so what is proved holds of every such pair of devices. -/

/-- The state of a device the host gives, as plain data of any length. -/
abbrev DeviceState := List Nat

/-- `read(s, a)` of the given `Ext`; `none` is NONE. -/
opaque extRead : DeviceState → Word → Option Byte

/-- `write(s, a, v)` of the given `Ext`. -/
opaque extWrite : DeviceState → Word → Byte → DeviceState

/-- `read(s, a)` of the given `Joypad`; `none` is NONE. -/
opaque joypadRead : DeviceState → Word → Option Byte

/-- `write(s, a, v)` of the given `Joypad`. -/
opaque joypadWrite : DeviceState → Word → Byte → DeviceState

end Sys2Proof.Config
end

