-- ==== Sys2Proof/Machine/State.lean ====
section
/-! DEFINITION. The whole state of the machine (10_state.md R30 to R81), as plain data, its reset
value (R90), and the reasons a step or a host call can stop. -/

namespace Sys2Proof.Machine

/-- The faults of 60_exceptions.md R541 that are states of the machine. They are what the fault mark
holds (R81). No meaning answers `Outcome.fault` with one: raising a fault is described by R540 as a
state (mark set, nothing else changed, no later step moves), and that state is the next state
(notes/assumptions/1.md). -/
inductive Fault where
  /-- Executing one of the 11 unused opcodes (R496): address of the opcode byte, and the byte. Raised
  by the meanings of the `unused` constructors. Safe: the machine stops where the spec stops it. -/
  | illegalOpcode (pc : Word) (op : Byte)
  /-- Executing `STOP` (R492): address of the opcode byte. Raised by the meaning of `stop`. Safe. -/
  | stopFault (pc : Word)
  /-- An address computed without wrap-around that lies above 0xFFFF (R107). Raised by operand fetch,
  `LD (a16),SP`, every push and pop, and interrupt dispatch. Safe. -/
  | addressRange (addr : Nat)
  deriving DecidableEq, Repr

/-- Why the machine, or the host's surface, refuses. -/
inductive Refusal where
  /-- Raised by an arm of `exec` whose instruction has no meaning in this model; no arm is one. Safe. -/
  | notModelled (mnemonic : String)
  /-- Raised by the host's `advance(t)` with `t < c` (R512, `DriverPreconditionFault(t, c)`); the state
  does not change. Safe. -/
  | driverPrecondition (target cycle : Nat)
  /-- Raised by the host's `RequestInterrupt(i)` with `i` outside 0..4 (R521); the state does not
  change. Safe. -/
  | interruptIndex (i : Nat)
  deriving DecidableEq, Repr

/-- Bytes by address, in one canonical form (`Memory.wf`): addresses strictly rising and no entry 0x00,
because an unlisted address reads as 0x00, the reset contents of every memory (R90). -/
abbrev Memory := List Host.Cell

/-- The processor's register file (R31). -/
structure Regs where
  a : Byte
  f : Byte
  b : Byte
  c : Byte
  d : Byte
  e : Byte
  h : Byte
  l : Byte
  deriving DecidableEq, Repr

/-- The timer (R50 to R54). -/
structure Timer where
  /-- Primary counter; DIV is its high byte (R50). -/
  tDiv : Word
  tima : Byte
  tma  : Byte
  tac  : Byte
  deriving DecidableEq, Repr

/-- The display controller's registers and hidden state (R60 to R77), less VRAM and OAM, which are
in `State.mem`. -/
structure Lcd where
  lcdc : Byte
  stat : Byte
  scy  : Byte
  scx  : Byte
  ly   : Byte
  lyc  : Byte
  dma  : Byte
  bgp  : Byte
  obp0 : Byte
  obp1 : Byte
  wy   : Byte
  wx   : Byte
  /-- `lcdNext`: `none` is IDLE (R72). -/
  next    : Option Nat
  /-- Window line counter (R74). -/
  winY    : Nat
  /-- Rows of the frame being built, first row first (R75). -/
  lineBuf : List Row
  /-- The published frame (R76). -/
  image   : List Row
  /-- Source page of the quick-copy (R77). -/
  dmaSrc  : Word
  /-- Next byte to copy; a copy is in progress exactly when it is below 160 (R77). -/
  dmaIdx  : Nat
  deriving DecidableEq, Repr

/-- The boot-ROM/cartridge controller as R112 describes it: two windows, a boot overlay, a toggle. The
model's own fields (DESIGN CHOICE, notes/assumptions/2.md). -/
structure Cartridge where
  /-- Its bytes in 0x0000..0x7FFF and 0xA000..0xBFFF, keyed by bus address. -/
  bytes       : Memory
  /-- The boot ROM answers 0x0000..0x00FF until 0xFF50 is written. -/
  bootMapped  : Bool
  /-- The boot ROM's bytes, keys 0..255. -/
  boot        : Memory
  /-- Writes to 0x0000..0x7FFF land (the spec's TestRam) or are dropped (a ROM). -/
  romWritable : Bool
  /-- 0xA000..0xBFFF answers. -/
  ramPresent  : Bool
  deriving DecidableEq, Repr

/-- The external device `Ext`, an argument of the model with a state of its own (R112). -/
inductive Ext where
  /-- A cartridge without bank switching, and the spec's TestRam (notes/assumptions/2.md). -/
  | cartridge (c : Cartridge)
  /-- Any other device: its state, read and written by `Config.extRead` and `Config.extWrite`. -/
  | given (st : Config.DeviceState)
  deriving DecidableEq, Repr

/-- The external device `Joypad`, an argument of the model with a state of its own (R112). -/
inductive Joypad where
  /-- The spec's NoJoypad. -/
  | noJoypad
  /-- A joypad that answers one byte and ignores writes (notes/assumptions/3.md). -/
  | fixed (v : Byte)
  /-- Any other device: its state, read and written by `Config.joypadRead` and `Config.joypadWrite`. -/
  | given (st : Config.DeviceState)
  deriving DecidableEq, Repr

/-- The machine (R30). -/
structure State where
  /-- The cycle counter `c` (R80). -/
  cycle    : Nat
  /-- The fault mark (R81). -/
  fault    : Option Fault
  regs     : Regs
  pc       : Word
  sp       : Word
  ime      : Bool
  /-- IE, bus 0xFFFF (R37). -/
  ie       : Byte
  /-- IF, bus 0xFF0F (R38). -/
  iflag    : Byte
  /-- Next non-idle cycle of the processor: `none` is IDLE, the halted state (R41). -/
  cpuNext  : Option Nat
  /-- HRAM, WRAM, VRAM and OAM, keyed by bus address (the echo's bytes under 0xC000..0xDDFF). -/
  mem      : Memory
  timer    : Timer
  lcd      : Lcd
  /-- HALT_WAKE_SERVICES_WITHOUT_IME (R531; notes/assumptions/5.md). -/
  haltWake : Bool
  ext      : Ext
  joypad   : Joypad
  deriving DecidableEq, Repr

/-- Registers after reset: every cell 0x00 (R90). -/
def Regs.reset : Regs := { a := 0, f := 0, b := 0, c := 0, d := 0, e := 0, h := 0, l := 0 }

/-- Timer after reset (R90). -/
def Timer.reset : Timer := { tDiv := 0, tima := 0, tma := 0, tac := 0 }

/-- The blank image: 144 rows of 160 pixels of colour 0 (R90). -/
def blankImage : List Row :=
  List.replicate Config.lcdHeight (List.replicate Config.lcdWidth 0)

/-- Display controller after reset: off, no copy in progress (R90). -/
def Lcd.reset : Lcd :=
  { lcdc := 0, stat := 0, scy := 0, scx := 0, ly := 0, lyc := 0, dma := 0, bgp := 0, obp0 := 0,
    obp1 := 0, wy := 0, wx := 0, next := none, winY := 0, lineBuf := [], image := blankImage,
    dmaSrc := 0, dmaIdx := Config.dmaLength }

/-- The spec's TestRam: 32768 bytes of writable memory at 0x0000..0x7FFF, nothing else
(R112; DESIGN CHOICE, notes/assumptions/2.md). -/
def Ext.testRam : Ext :=
  .cartridge { bytes := [], bootMapped := false, boot := [], romWritable := true, ramPresent := false }

/-- The machine right after reset (R90, R700), with the spec's test configuration outside it (R112). -/
def State.reset : State :=
  { cycle := 0, fault := none, regs := Regs.reset, pc := 0x0000, sp := 0x0000, ime := false, ie := 0,
    iflag := 0, cpuNext := some 0, mem := [], timer := Timer.reset, lcd := Lcd.reset,
    haltWake := false, ext := Ext.testRam, joypad := .noJoypad }

end Sys2Proof.Machine
end

