-- ==== Sys2Proof/Machine/Memory.lean ====
section
/-! DEFINITION. Byte memory as a list of cells in one canonical form: reading, writing, and the form. -/

namespace Sys2Proof.Machine

/-- The byte at `a`; an unlisted address reads as 0x00 (R90: every memory byte resets to 0x00). -/
def Memory.read (m : Memory) (a : Nat) : Byte :=
  match m with
  | [] => 0
  | cell :: rest => if cell.1 = a then cell.2 else Memory.read rest a

/-- Every cell but those at `a`. -/
def Memory.erase (m : Memory) (a : Nat) : Memory :=
  match m with
  | [] => []
  | cell :: rest => if cell.1 = a then Memory.erase rest a else cell :: Memory.erase rest a

/-- Put a cell before the first cell of a higher address. -/
def Memory.insert (m : Memory) (a : Nat) (v : Byte) : Memory :=
  match m with
  | [] => [(a, v)]
  | cell :: rest => if a < cell.1 then (a, v) :: cell :: rest else cell :: Memory.insert rest a v

/-- Store `v` at `a`; storing 0x00, what an unlisted address reads as, removes the entry. -/
def Memory.write (m : Memory) (a : Nat) (v : Byte) : Memory :=
  if v = 0 then Memory.erase m a else Memory.insert (Memory.erase m a) a v

/-- The canonical form: addresses strictly rising, no entry equal to what an unlisted address reads as. -/
def Memory.wf (m : Memory) : Bool :=
  decide (m.Pairwise (fun x y => x.1 < y.1)) && m.all (fun cell => cell.2 != 0)

end Sys2Proof.Machine
end

