-- ==== Sys2Proof/Syntax.lean ====
section
/-! DEFINITION. The instruction set as syntax: the operand fields of 30_encoding.md R163 to R165 as
names, and one constructor per row of spec/opcode_table.json: first the rows with operand bytes (Lean's
compiler gives a constructor with fields a small tag), then the rest, each group in the table's order. -/

namespace Sys2Proof

/-- The 8-bit registers a 3-bit field can select (R163); F is never selectable. -/
inductive Reg8 where
  | b | c | d | e | h | l | a
  deriving DecidableEq, Repr

/-- What a 3-bit field selects (R163): a register, or for `k = 6` the memory byte at HL. -/
inductive Arg8 where
  | reg (r : Reg8)
  | atHl
  deriving DecidableEq, Repr

/-- `r16[k]` (R164). -/
inductive Pair where
  | bc | de | hl | sp
  deriving DecidableEq, Repr

/-- `r16stk[k]` (R164). -/
inductive StackPair where
  | bc | de | hl | af
  deriving DecidableEq, Repr

/-- `cond[k]` (R165). -/
inductive Cond where
  | nz | z | nc | c
  deriving DecidableEq, Repr

/-- `alu[k]` (R165). -/
inductive AluOp where
  | add | adc | sub | sbc | and | xor | or | cp
  deriving DecidableEq, Repr

/-- `rot[k]` (R165). -/
inductive RotOp where
  | rlc | rrc | rl | rr | sla | sra | swap | srl
  deriving DecidableEq, Repr

/-- The 11 opcode values with no instruction (R180). -/
inductive UnusedOp where
  | xD3 | xDB | xDD | xE3 | xE4 | xEB | xEC | xED | xF4 | xFC | xFD
  deriving DecidableEq, Repr

/-- One constructor per row of the opcode table: 256 unprefixed rows, 256 prefixed rows. A constructor's
arguments are the operand bytes of its format (R162, R166): `n` an immediate, `e` a signed displacement,
`a` the low byte of an address in page 0xFF, `op2` the second opcode. -/
inductive Instr where
  /-- `LD BC,n16` (R302). -/
  | ldBcN16 (n : Word)
  /-- `LD B,n8` (R251). -/
  | ldBN8 (n : Byte)
  /-- `LD (a16),SP` (R303). -/
  | ldAtA16Sp (n : Word)
  /-- `LD C,n8` (R251). -/
  | ldCN8 (n : Byte)
  /-- `LD DE,n16` (R302). -/
  | ldDeN16 (n : Word)
  /-- `LD D,n8` (R251). -/
  | ldDN8 (n : Byte)
  /-- `JR e8` (R454). -/
  | jrE8 (e : Byte)
  /-- `LD E,n8` (R251). -/
  | ldEN8 (n : Byte)
  /-- `JR NZ,e8` (R455). -/
  | jrNzE8 (e : Byte)
  /-- `LD HL,n16` (R302). -/
  | ldHlN16 (n : Word)
  /-- `LD H,n8` (R251). -/
  | ldHN8 (n : Byte)
  /-- `JR Z,e8` (R455). -/
  | jrZE8 (e : Byte)
  /-- `LD L,n8` (R251). -/
  | ldLN8 (n : Byte)
  /-- `JR NC,e8` (R455). -/
  | jrNcE8 (e : Byte)
  /-- `LD SP,n16` (R302). -/
  | ldSpN16 (n : Word)
  /-- `LD (HL),n8` (R254). -/
  | ldAtHlN8 (n : Byte)
  /-- `JR C,e8` (R455). -/
  | jrCE8 (e : Byte)
  /-- `LD A,n8` (R251). -/
  | ldAN8 (n : Byte)
  /-- `JP NZ,a16` (R452). -/
  | jpNzA16 (n : Word)
  /-- `JP a16` (R451). -/
  | jpA16 (n : Word)
  /-- `CALL NZ,a16` (R457). -/
  | callNzA16 (n : Word)
  /-- `ADD A,n8` (R333). -/
  | addAN8 (n : Byte)
  /-- `JP Z,a16` (R452). -/
  | jpZA16 (n : Word)
  /-- `PREFIX CB` (R495). -/
  | prefixCb (op2 : Byte)
  /-- `CALL Z,a16` (R457). -/
  | callZA16 (n : Word)
  /-- `CALL a16` (R456). -/
  | callA16 (n : Word)
  /-- `ADC A,n8` (R336). -/
  | adcAN8 (n : Byte)
  /-- `JP NC,a16` (R452). -/
  | jpNcA16 (n : Word)
  /-- `CALL NC,a16` (R457). -/
  | callNcA16 (n : Word)
  /-- `SUB n8` (R339). -/
  | subN8 (n : Byte)
  /-- `JP C,a16` (R452). -/
  | jpCA16 (n : Word)
  /-- `CALL C,a16` (R457). -/
  | callCA16 (n : Word)
  /-- `SBC A,n8` (R342). -/
  | sbcAN8 (n : Byte)
  /-- `LDH (a8),A` (R264). -/
  | ldhAtA8A (a : Byte)
  /-- `AND n8` (R345). -/
  | andN8 (n : Byte)
  /-- `ADD SP,e8` (R383). -/
  | addSpE8 (e : Byte)
  /-- `LD (a16),A` (R260). -/
  | ldAtA16A (n : Word)
  /-- `XOR n8` (R348). -/
  | xorN8 (n : Byte)
  /-- `LDH A,(a8)` (R263). -/
  | ldhAAtA8 (a : Byte)
  /-- `OR n8` (R351). -/
  | orN8 (n : Byte)
  /-- `LD HL,SP+e8` (R305). -/
  | ldHlSpE8 (e : Byte)
  /-- `LD A,(a16)` (R259). -/
  | ldAAtA16 (n : Word)
  /-- `CP n8` (R354). -/
  | cpN8 (n : Byte)
  /-- `NOP` (R490). -/
  | nop
  /-- `LD (BC),A` (R257). -/
  | ldAtBcA
  /-- `INC BC` (R381). -/
  | incBc
  /-- `INC B` (R355). -/
  | incB
  /-- `DEC B` (R357). -/
  | decB
  /-- `RLCA` (R400). -/
  | rlca
  /-- `ADD HL,BC` (R380). -/
  | addHlBc
  /-- `LD A,(BC)` (R255). -/
  | ldAAtBc
  /-- `DEC BC` (R382). -/
  | decBc
  /-- `INC C` (R355). -/
  | incC
  /-- `DEC C` (R357). -/
  | decC
  /-- `RRCA` (R401). -/
  | rrca
  /-- `STOP` (R492). -/
  | stop
  /-- `LD (DE),A` (R258). -/
  | ldAtDeA
  /-- `INC DE` (R381). -/
  | incDe
  /-- `INC D` (R355). -/
  | incD
  /-- `DEC D` (R357). -/
  | decD
  /-- `RLA` (R402). -/
  | rla
  /-- `ADD HL,DE` (R380). -/
  | addHlDe
  /-- `LD A,(DE)` (R256). -/
  | ldAAtDe
  /-- `DEC DE` (R382). -/
  | decDe
  /-- `INC E` (R355). -/
  | incE
  /-- `DEC E` (R357). -/
  | decE
  /-- `RRA` (R403). -/
  | rra
  /-- `LD (HL+),A` (R267). -/
  | ldAtHlIncA
  /-- `INC HL` (R381). -/
  | incHl
  /-- `INC H` (R355). -/
  | incH
  /-- `DEC H` (R357). -/
  | decH
  /-- `DAA` (R359). -/
  | daa
  /-- `ADD HL,HL` (R380). -/
  | addHlHl
  /-- `LD A,(HL+)` (R265). -/
  | ldAAtHlInc
  /-- `DEC HL` (R382). -/
  | decHl
  /-- `INC L` (R355). -/
  | incL
  /-- `DEC L` (R357). -/
  | decL
  /-- `CPL` (R360). -/
  | cpl
  /-- `LD (HL-),A` (R268). -/
  | ldAtHlDecA
  /-- `INC SP` (R381). -/
  | incSp
  /-- `INC (HL)` (R356). -/
  | incAtHl
  /-- `DEC (HL)` (R358). -/
  | decAtHl
  /-- `SCF` (R361). -/
  | scf
  /-- `ADD HL,SP` (R380). -/
  | addHlSp
  /-- `LD A,(HL-)` (R266). -/
  | ldAAtHlDec
  /-- `DEC SP` (R382). -/
  | decSp
  /-- `INC A` (R355). -/
  | incA
  /-- `DEC A` (R357). -/
  | decA
  /-- `CCF` (R362). -/
  | ccf
  /-- `LD B,B` (R250). -/
  | ldBB
  /-- `LD B,C` (R250). -/
  | ldBC
  /-- `LD B,D` (R250). -/
  | ldBD
  /-- `LD B,E` (R250). -/
  | ldBE
  /-- `LD B,H` (R250). -/
  | ldBH
  /-- `LD B,L` (R250). -/
  | ldBL
  /-- `LD B,(HL)` (R252). -/
  | ldBAtHl
  /-- `LD B,A` (R250). -/
  | ldBA
  /-- `LD C,B` (R250). -/
  | ldCB
  /-- `LD C,C` (R250). -/
  | ldCC
  /-- `LD C,D` (R250). -/
  | ldCD
  /-- `LD C,E` (R250). -/
  | ldCE
  /-- `LD C,H` (R250). -/
  | ldCH
  /-- `LD C,L` (R250). -/
  | ldCL
  /-- `LD C,(HL)` (R252). -/
  | ldCAtHl
  /-- `LD C,A` (R250). -/
  | ldCA
  /-- `LD D,B` (R250). -/
  | ldDB
  /-- `LD D,C` (R250). -/
  | ldDC
  /-- `LD D,D` (R250). -/
  | ldDD
  /-- `LD D,E` (R250). -/
  | ldDE
  /-- `LD D,H` (R250). -/
  | ldDH
  /-- `LD D,L` (R250). -/
  | ldDL
  /-- `LD D,(HL)` (R252). -/
  | ldDAtHl
  /-- `LD D,A` (R250). -/
  | ldDA
  /-- `LD E,B` (R250). -/
  | ldEB
  /-- `LD E,C` (R250). -/
  | ldEC
  /-- `LD E,D` (R250). -/
  | ldED
  /-- `LD E,E` (R250). -/
  | ldEE
  /-- `LD E,H` (R250). -/
  | ldEH
  /-- `LD E,L` (R250). -/
  | ldEL
  /-- `LD E,(HL)` (R252). -/
  | ldEAtHl
  /-- `LD E,A` (R250). -/
  | ldEA
  /-- `LD H,B` (R250). -/
  | ldHB
  /-- `LD H,C` (R250). -/
  | ldHC
  /-- `LD H,D` (R250). -/
  | ldHD
  /-- `LD H,E` (R250). -/
  | ldHE
  /-- `LD H,H` (R250). -/
  | ldHH
  /-- `LD H,L` (R250). -/
  | ldHL
  /-- `LD H,(HL)` (R252). -/
  | ldHAtHl
  /-- `LD H,A` (R250). -/
  | ldHA
  /-- `LD L,B` (R250). -/
  | ldLB
  /-- `LD L,C` (R250). -/
  | ldLC
  /-- `LD L,D` (R250). -/
  | ldLD
  /-- `LD L,E` (R250). -/
  | ldLE
  /-- `LD L,H` (R250). -/
  | ldLH
  /-- `LD L,L` (R250). -/
  | ldLL
  /-- `LD L,(HL)` (R252). -/
  | ldLAtHl
  /-- `LD L,A` (R250). -/
  | ldLA
  /-- `LD (HL),B` (R253). -/
  | ldAtHlB
  /-- `LD (HL),C` (R253). -/
  | ldAtHlC
  /-- `LD (HL),D` (R253). -/
  | ldAtHlD
  /-- `LD (HL),E` (R253). -/
  | ldAtHlE
  /-- `LD (HL),H` (R253). -/
  | ldAtHlH
  /-- `LD (HL),L` (R253). -/
  | ldAtHlL
  /-- `HALT` (R491). -/
  | halt
  /-- `LD (HL),A` (R253). -/
  | ldAtHlA
  /-- `LD A,B` (R250). -/
  | ldAB
  /-- `LD A,C` (R250). -/
  | ldAC
  /-- `LD A,D` (R250). -/
  | ldAD
  /-- `LD A,E` (R250). -/
  | ldAE
  /-- `LD A,H` (R250). -/
  | ldAH
  /-- `LD A,L` (R250). -/
  | ldAL
  /-- `LD A,(HL)` (R252). -/
  | ldAAtHl
  /-- `LD A,A` (R250). -/
  | ldAA
  /-- `ADD A,B` (R331). -/
  | addAB
  /-- `ADD A,C` (R331). -/
  | addAC
  /-- `ADD A,D` (R331). -/
  | addAD
  /-- `ADD A,E` (R331). -/
  | addAE
  /-- `ADD A,H` (R331). -/
  | addAH
  /-- `ADD A,L` (R331). -/
  | addAL
  /-- `ADD A,(HL)` (R332). -/
  | addAAtHl
  /-- `ADD A,A` (R331). -/
  | addAA
  /-- `ADC A,B` (R334). -/
  | adcAB
  /-- `ADC A,C` (R334). -/
  | adcAC
  /-- `ADC A,D` (R334). -/
  | adcAD
  /-- `ADC A,E` (R334). -/
  | adcAE
  /-- `ADC A,H` (R334). -/
  | adcAH
  /-- `ADC A,L` (R334). -/
  | adcAL
  /-- `ADC A,(HL)` (R335). -/
  | adcAAtHl
  /-- `ADC A,A` (R334). -/
  | adcAA
  /-- `SUB B` (R337). -/
  | subB
  /-- `SUB C` (R337). -/
  | subC
  /-- `SUB D` (R337). -/
  | subD
  /-- `SUB E` (R337). -/
  | subE
  /-- `SUB H` (R337). -/
  | subH
  /-- `SUB L` (R337). -/
  | subL
  /-- `SUB (HL)` (R338). -/
  | subAtHl
  /-- `SUB A` (R337). -/
  | subA
  /-- `SBC A,B` (R340). -/
  | sbcAB
  /-- `SBC A,C` (R340). -/
  | sbcAC
  /-- `SBC A,D` (R340). -/
  | sbcAD
  /-- `SBC A,E` (R340). -/
  | sbcAE
  /-- `SBC A,H` (R340). -/
  | sbcAH
  /-- `SBC A,L` (R340). -/
  | sbcAL
  /-- `SBC A,(HL)` (R341). -/
  | sbcAAtHl
  /-- `SBC A,A` (R340). -/
  | sbcAA
  /-- `AND B` (R343). -/
  | andB
  /-- `AND C` (R343). -/
  | andC
  /-- `AND D` (R343). -/
  | andD
  /-- `AND E` (R343). -/
  | andE
  /-- `AND H` (R343). -/
  | andH
  /-- `AND L` (R343). -/
  | andL
  /-- `AND (HL)` (R344). -/
  | andAtHl
  /-- `AND A` (R343). -/
  | andA
  /-- `XOR B` (R346). -/
  | xorB
  /-- `XOR C` (R346). -/
  | xorC
  /-- `XOR D` (R346). -/
  | xorD
  /-- `XOR E` (R346). -/
  | xorE
  /-- `XOR H` (R346). -/
  | xorH
  /-- `XOR L` (R346). -/
  | xorL
  /-- `XOR (HL)` (R347). -/
  | xorAtHl
  /-- `XOR A` (R346). -/
  | xorA
  /-- `OR B` (R349). -/
  | orB
  /-- `OR C` (R349). -/
  | orC
  /-- `OR D` (R349). -/
  | orD
  /-- `OR E` (R349). -/
  | orE
  /-- `OR H` (R349). -/
  | orH
  /-- `OR L` (R349). -/
  | orL
  /-- `OR (HL)` (R350). -/
  | orAtHl
  /-- `OR A` (R349). -/
  | orA
  /-- `CP B` (R352). -/
  | cpB
  /-- `CP C` (R352). -/
  | cpC
  /-- `CP D` (R352). -/
  | cpD
  /-- `CP E` (R352). -/
  | cpE
  /-- `CP H` (R352). -/
  | cpH
  /-- `CP L` (R352). -/
  | cpL
  /-- `CP (HL)` (R353). -/
  | cpAtHl
  /-- `CP A` (R352). -/
  | cpA
  /-- `RET NZ` (R459). -/
  | retNz
  /-- `POP BC` (R307). -/
  | popBc
  /-- `PUSH BC` (R306). -/
  | pushBc
  /-- `RST 0x00` (R461). -/
  | rst00
  /-- `RET Z` (R459). -/
  | retZ
  /-- `RET` (R458). -/
  | ret
  /-- `RST 0x08` (R461). -/
  | rst08
  /-- `RET NC` (R459). -/
  | retNc
  /-- `POP DE` (R307). -/
  | popDe
  /-- `UNUSED 0xD3` (R496). -/
  | unusedD3
  /-- `PUSH DE` (R306). -/
  | pushDe
  /-- `RST 0x10` (R461). -/
  | rst10
  /-- `RET C` (R459). -/
  | retC
  /-- `RETI` (R460). -/
  | reti
  /-- `UNUSED 0xDB` (R496). -/
  | unusedDB
  /-- `UNUSED 0xDD` (R496). -/
  | unusedDD
  /-- `RST 0x18` (R461). -/
  | rst18
  /-- `POP HL` (R307). -/
  | popHl
  /-- `LDH (C),A` (R262). -/
  | ldhAtCA
  /-- `UNUSED 0xE3` (R496). -/
  | unusedE3
  /-- `UNUSED 0xE4` (R496). -/
  | unusedE4
  /-- `PUSH HL` (R306). -/
  | pushHl
  /-- `RST 0x20` (R461). -/
  | rst20
  /-- `JP HL` (R453). -/
  | jpHl
  /-- `UNUSED 0xEB` (R496). -/
  | unusedEB
  /-- `UNUSED 0xEC` (R496). -/
  | unusedEC
  /-- `UNUSED 0xED` (R496). -/
  | unusedED
  /-- `RST 0x28` (R461). -/
  | rst28
  /-- `POP AF` (R307). -/
  | popAf
  /-- `LDH A,(C)` (R261). -/
  | ldhAAtC
  /-- `DI` (R493). -/
  | di
  /-- `UNUSED 0xF4` (R496). -/
  | unusedF4
  /-- `PUSH AF` (R306). -/
  | pushAf
  /-- `RST 0x30` (R461). -/
  | rst30
  /-- `LD SP,HL` (R304). -/
  | ldSpHl
  /-- `EI` (R494). -/
  | ei
  /-- `UNUSED 0xFC` (R496). -/
  | unusedFC
  /-- `UNUSED 0xFD` (R496). -/
  | unusedFD
  /-- `RST 0x38` (R461). -/
  | rst38
  /-- `RLC B` (R404). -/
  | rlcB
  /-- `RLC C` (R404). -/
  | rlcC
  /-- `RLC D` (R404). -/
  | rlcD
  /-- `RLC E` (R404). -/
  | rlcE
  /-- `RLC H` (R404). -/
  | rlcH
  /-- `RLC L` (R404). -/
  | rlcL
  /-- `RLC (HL)` (R405). -/
  | rlcAtHl
  /-- `RLC A` (R404). -/
  | rlcA
  /-- `RRC B` (R406). -/
  | rrcB
  /-- `RRC C` (R406). -/
  | rrcC
  /-- `RRC D` (R406). -/
  | rrcD
  /-- `RRC E` (R406). -/
  | rrcE
  /-- `RRC H` (R406). -/
  | rrcH
  /-- `RRC L` (R406). -/
  | rrcL
  /-- `RRC (HL)` (R407). -/
  | rrcAtHl
  /-- `RRC A` (R406). -/
  | rrcA
  /-- `RL B` (R408). -/
  | rlB
  /-- `RL C` (R408). -/
  | rlC
  /-- `RL D` (R408). -/
  | rlD
  /-- `RL E` (R408). -/
  | rlE
  /-- `RL H` (R408). -/
  | rlH
  /-- `RL L` (R408). -/
  | rlL
  /-- `RL (HL)` (R409). -/
  | rlAtHl
  /-- `RL A` (R408). -/
  | rlA
  /-- `RR B` (R410). -/
  | rrB
  /-- `RR C` (R410). -/
  | rrC
  /-- `RR D` (R410). -/
  | rrD
  /-- `RR E` (R410). -/
  | rrE
  /-- `RR H` (R410). -/
  | rrH
  /-- `RR L` (R410). -/
  | rrL
  /-- `RR (HL)` (R411). -/
  | rrAtHl
  /-- `RR A` (R410). -/
  | rrA
  /-- `SLA B` (R412). -/
  | slaB
  /-- `SLA C` (R412). -/
  | slaC
  /-- `SLA D` (R412). -/
  | slaD
  /-- `SLA E` (R412). -/
  | slaE
  /-- `SLA H` (R412). -/
  | slaH
  /-- `SLA L` (R412). -/
  | slaL
  /-- `SLA (HL)` (R413). -/
  | slaAtHl
  /-- `SLA A` (R412). -/
  | slaA
  /-- `SRA B` (R414). -/
  | sraB
  /-- `SRA C` (R414). -/
  | sraC
  /-- `SRA D` (R414). -/
  | sraD
  /-- `SRA E` (R414). -/
  | sraE
  /-- `SRA H` (R414). -/
  | sraH
  /-- `SRA L` (R414). -/
  | sraL
  /-- `SRA (HL)` (R415). -/
  | sraAtHl
  /-- `SRA A` (R414). -/
  | sraA
  /-- `SWAP B` (R416). -/
  | swapB
  /-- `SWAP C` (R416). -/
  | swapC
  /-- `SWAP D` (R416). -/
  | swapD
  /-- `SWAP E` (R416). -/
  | swapE
  /-- `SWAP H` (R416). -/
  | swapH
  /-- `SWAP L` (R416). -/
  | swapL
  /-- `SWAP (HL)` (R417). -/
  | swapAtHl
  /-- `SWAP A` (R416). -/
  | swapA
  /-- `SRL B` (R418). -/
  | srlB
  /-- `SRL C` (R418). -/
  | srlC
  /-- `SRL D` (R418). -/
  | srlD
  /-- `SRL E` (R418). -/
  | srlE
  /-- `SRL H` (R418). -/
  | srlH
  /-- `SRL L` (R418). -/
  | srlL
  /-- `SRL (HL)` (R419). -/
  | srlAtHl
  /-- `SRL A` (R418). -/
  | srlA
  /-- `BIT 0,B` (R420). -/
  | bit0B
  /-- `BIT 0,C` (R420). -/
  | bit0C
  /-- `BIT 0,D` (R420). -/
  | bit0D
  /-- `BIT 0,E` (R420). -/
  | bit0E
  /-- `BIT 0,H` (R420). -/
  | bit0H
  /-- `BIT 0,L` (R420). -/
  | bit0L
  /-- `BIT 0,(HL)` (R421). -/
  | bit0AtHl
  /-- `BIT 0,A` (R420). -/
  | bit0A
  /-- `BIT 1,B` (R420). -/
  | bit1B
  /-- `BIT 1,C` (R420). -/
  | bit1C
  /-- `BIT 1,D` (R420). -/
  | bit1D
  /-- `BIT 1,E` (R420). -/
  | bit1E
  /-- `BIT 1,H` (R420). -/
  | bit1H
  /-- `BIT 1,L` (R420). -/
  | bit1L
  /-- `BIT 1,(HL)` (R421). -/
  | bit1AtHl
  /-- `BIT 1,A` (R420). -/
  | bit1A
  /-- `BIT 2,B` (R420). -/
  | bit2B
  /-- `BIT 2,C` (R420). -/
  | bit2C
  /-- `BIT 2,D` (R420). -/
  | bit2D
  /-- `BIT 2,E` (R420). -/
  | bit2E
  /-- `BIT 2,H` (R420). -/
  | bit2H
  /-- `BIT 2,L` (R420). -/
  | bit2L
  /-- `BIT 2,(HL)` (R421). -/
  | bit2AtHl
  /-- `BIT 2,A` (R420). -/
  | bit2A
  /-- `BIT 3,B` (R420). -/
  | bit3B
  /-- `BIT 3,C` (R420). -/
  | bit3C
  /-- `BIT 3,D` (R420). -/
  | bit3D
  /-- `BIT 3,E` (R420). -/
  | bit3E
  /-- `BIT 3,H` (R420). -/
  | bit3H
  /-- `BIT 3,L` (R420). -/
  | bit3L
  /-- `BIT 3,(HL)` (R421). -/
  | bit3AtHl
  /-- `BIT 3,A` (R420). -/
  | bit3A
  /-- `BIT 4,B` (R420). -/
  | bit4B
  /-- `BIT 4,C` (R420). -/
  | bit4C
  /-- `BIT 4,D` (R420). -/
  | bit4D
  /-- `BIT 4,E` (R420). -/
  | bit4E
  /-- `BIT 4,H` (R420). -/
  | bit4H
  /-- `BIT 4,L` (R420). -/
  | bit4L
  /-- `BIT 4,(HL)` (R421). -/
  | bit4AtHl
  /-- `BIT 4,A` (R420). -/
  | bit4A
  /-- `BIT 5,B` (R420). -/
  | bit5B
  /-- `BIT 5,C` (R420). -/
  | bit5C
  /-- `BIT 5,D` (R420). -/
  | bit5D
  /-- `BIT 5,E` (R420). -/
  | bit5E
  /-- `BIT 5,H` (R420). -/
  | bit5H
  /-- `BIT 5,L` (R420). -/
  | bit5L
  /-- `BIT 5,(HL)` (R421). -/
  | bit5AtHl
  /-- `BIT 5,A` (R420). -/
  | bit5A
  /-- `BIT 6,B` (R420). -/
  | bit6B
  /-- `BIT 6,C` (R420). -/
  | bit6C
  /-- `BIT 6,D` (R420). -/
  | bit6D
  /-- `BIT 6,E` (R420). -/
  | bit6E
  /-- `BIT 6,H` (R420). -/
  | bit6H
  /-- `BIT 6,L` (R420). -/
  | bit6L
  /-- `BIT 6,(HL)` (R421). -/
  | bit6AtHl
  /-- `BIT 6,A` (R420). -/
  | bit6A
  /-- `BIT 7,B` (R420). -/
  | bit7B
  /-- `BIT 7,C` (R420). -/
  | bit7C
  /-- `BIT 7,D` (R420). -/
  | bit7D
  /-- `BIT 7,E` (R420). -/
  | bit7E
  /-- `BIT 7,H` (R420). -/
  | bit7H
  /-- `BIT 7,L` (R420). -/
  | bit7L
  /-- `BIT 7,(HL)` (R421). -/
  | bit7AtHl
  /-- `BIT 7,A` (R420). -/
  | bit7A
  /-- `RES 0,B` (R422). -/
  | res0B
  /-- `RES 0,C` (R422). -/
  | res0C
  /-- `RES 0,D` (R422). -/
  | res0D
  /-- `RES 0,E` (R422). -/
  | res0E
  /-- `RES 0,H` (R422). -/
  | res0H
  /-- `RES 0,L` (R422). -/
  | res0L
  /-- `RES 0,(HL)` (R423). -/
  | res0AtHl
  /-- `RES 0,A` (R422). -/
  | res0A
  /-- `RES 1,B` (R422). -/
  | res1B
  /-- `RES 1,C` (R422). -/
  | res1C
  /-- `RES 1,D` (R422). -/
  | res1D
  /-- `RES 1,E` (R422). -/
  | res1E
  /-- `RES 1,H` (R422). -/
  | res1H
  /-- `RES 1,L` (R422). -/
  | res1L
  /-- `RES 1,(HL)` (R423). -/
  | res1AtHl
  /-- `RES 1,A` (R422). -/
  | res1A
  /-- `RES 2,B` (R422). -/
  | res2B
  /-- `RES 2,C` (R422). -/
  | res2C
  /-- `RES 2,D` (R422). -/
  | res2D
  /-- `RES 2,E` (R422). -/
  | res2E
  /-- `RES 2,H` (R422). -/
  | res2H
  /-- `RES 2,L` (R422). -/
  | res2L
  /-- `RES 2,(HL)` (R423). -/
  | res2AtHl
  /-- `RES 2,A` (R422). -/
  | res2A
  /-- `RES 3,B` (R422). -/
  | res3B
  /-- `RES 3,C` (R422). -/
  | res3C
  /-- `RES 3,D` (R422). -/
  | res3D
  /-- `RES 3,E` (R422). -/
  | res3E
  /-- `RES 3,H` (R422). -/
  | res3H
  /-- `RES 3,L` (R422). -/
  | res3L
  /-- `RES 3,(HL)` (R423). -/
  | res3AtHl
  /-- `RES 3,A` (R422). -/
  | res3A
  /-- `RES 4,B` (R422). -/
  | res4B
  /-- `RES 4,C` (R422). -/
  | res4C
  /-- `RES 4,D` (R422). -/
  | res4D
  /-- `RES 4,E` (R422). -/
  | res4E
  /-- `RES 4,H` (R422). -/
  | res4H
  /-- `RES 4,L` (R422). -/
  | res4L
  /-- `RES 4,(HL)` (R423). -/
  | res4AtHl
  /-- `RES 4,A` (R422). -/
  | res4A
  /-- `RES 5,B` (R422). -/
  | res5B
  /-- `RES 5,C` (R422). -/
  | res5C
  /-- `RES 5,D` (R422). -/
  | res5D
  /-- `RES 5,E` (R422). -/
  | res5E
  /-- `RES 5,H` (R422). -/
  | res5H
  /-- `RES 5,L` (R422). -/
  | res5L
  /-- `RES 5,(HL)` (R423). -/
  | res5AtHl
  /-- `RES 5,A` (R422). -/
  | res5A
  /-- `RES 6,B` (R422). -/
  | res6B
  /-- `RES 6,C` (R422). -/
  | res6C
  /-- `RES 6,D` (R422). -/
  | res6D
  /-- `RES 6,E` (R422). -/
  | res6E
  /-- `RES 6,H` (R422). -/
  | res6H
  /-- `RES 6,L` (R422). -/
  | res6L
  /-- `RES 6,(HL)` (R423). -/
  | res6AtHl
  /-- `RES 6,A` (R422). -/
  | res6A
  /-- `RES 7,B` (R422). -/
  | res7B
  /-- `RES 7,C` (R422). -/
  | res7C
  /-- `RES 7,D` (R422). -/
  | res7D
  /-- `RES 7,E` (R422). -/
  | res7E
  /-- `RES 7,H` (R422). -/
  | res7H
  /-- `RES 7,L` (R422). -/
  | res7L
  /-- `RES 7,(HL)` (R423). -/
  | res7AtHl
  /-- `RES 7,A` (R422). -/
  | res7A
  /-- `SET 0,B` (R424). -/
  | set0B
  /-- `SET 0,C` (R424). -/
  | set0C
  /-- `SET 0,D` (R424). -/
  | set0D
  /-- `SET 0,E` (R424). -/
  | set0E
  /-- `SET 0,H` (R424). -/
  | set0H
  /-- `SET 0,L` (R424). -/
  | set0L
  /-- `SET 0,(HL)` (R425). -/
  | set0AtHl
  /-- `SET 0,A` (R424). -/
  | set0A
  /-- `SET 1,B` (R424). -/
  | set1B
  /-- `SET 1,C` (R424). -/
  | set1C
  /-- `SET 1,D` (R424). -/
  | set1D
  /-- `SET 1,E` (R424). -/
  | set1E
  /-- `SET 1,H` (R424). -/
  | set1H
  /-- `SET 1,L` (R424). -/
  | set1L
  /-- `SET 1,(HL)` (R425). -/
  | set1AtHl
  /-- `SET 1,A` (R424). -/
  | set1A
  /-- `SET 2,B` (R424). -/
  | set2B
  /-- `SET 2,C` (R424). -/
  | set2C
  /-- `SET 2,D` (R424). -/
  | set2D
  /-- `SET 2,E` (R424). -/
  | set2E
  /-- `SET 2,H` (R424). -/
  | set2H
  /-- `SET 2,L` (R424). -/
  | set2L
  /-- `SET 2,(HL)` (R425). -/
  | set2AtHl
  /-- `SET 2,A` (R424). -/
  | set2A
  /-- `SET 3,B` (R424). -/
  | set3B
  /-- `SET 3,C` (R424). -/
  | set3C
  /-- `SET 3,D` (R424). -/
  | set3D
  /-- `SET 3,E` (R424). -/
  | set3E
  /-- `SET 3,H` (R424). -/
  | set3H
  /-- `SET 3,L` (R424). -/
  | set3L
  /-- `SET 3,(HL)` (R425). -/
  | set3AtHl
  /-- `SET 3,A` (R424). -/
  | set3A
  /-- `SET 4,B` (R424). -/
  | set4B
  /-- `SET 4,C` (R424). -/
  | set4C
  /-- `SET 4,D` (R424). -/
  | set4D
  /-- `SET 4,E` (R424). -/
  | set4E
  /-- `SET 4,H` (R424). -/
  | set4H
  /-- `SET 4,L` (R424). -/
  | set4L
  /-- `SET 4,(HL)` (R425). -/
  | set4AtHl
  /-- `SET 4,A` (R424). -/
  | set4A
  /-- `SET 5,B` (R424). -/
  | set5B
  /-- `SET 5,C` (R424). -/
  | set5C
  /-- `SET 5,D` (R424). -/
  | set5D
  /-- `SET 5,E` (R424). -/
  | set5E
  /-- `SET 5,H` (R424). -/
  | set5H
  /-- `SET 5,L` (R424). -/
  | set5L
  /-- `SET 5,(HL)` (R425). -/
  | set5AtHl
  /-- `SET 5,A` (R424). -/
  | set5A
  /-- `SET 6,B` (R424). -/
  | set6B
  /-- `SET 6,C` (R424). -/
  | set6C
  /-- `SET 6,D` (R424). -/
  | set6D
  /-- `SET 6,E` (R424). -/
  | set6E
  /-- `SET 6,H` (R424). -/
  | set6H
  /-- `SET 6,L` (R424). -/
  | set6L
  /-- `SET 6,(HL)` (R425). -/
  | set6AtHl
  /-- `SET 6,A` (R424). -/
  | set6A
  /-- `SET 7,B` (R424). -/
  | set7B
  /-- `SET 7,C` (R424). -/
  | set7C
  /-- `SET 7,D` (R424). -/
  | set7D
  /-- `SET 7,E` (R424). -/
  | set7E
  /-- `SET 7,H` (R424). -/
  | set7H
  /-- `SET 7,L` (R424). -/
  | set7L
  /-- `SET 7,(HL)` (R425). -/
  | set7AtHl
  /-- `SET 7,A` (R424). -/
  | set7A
  deriving DecidableEq, Repr

end Sys2Proof
end

