-- ==== Sys2Proof/Machine/Registers.lean ====
section
/-! DEFINITION. The one home of every register: reading and writing the 8-bit cells and the 16-bit
views of them (10_state.md R31 to R36). -/

namespace Sys2Proof.Machine

/-- A general register (R31). -/
def State.reg8 (s : State) (r : Reg8) : Byte :=
  match r with
  | .b => s.regs.b
  | .c => s.regs.c
  | .d => s.regs.d
  | .e => s.regs.e
  | .h => s.regs.h
  | .l => s.regs.l
  | .a => s.regs.a

/-- The register file with one general register written. -/
def Regs.setReg8 (g : Regs) (r : Reg8) (v : Byte) : Regs :=
  match r with
  | .b => { g with b := v }
  | .c => { g with c := v }
  | .d => { g with d := v }
  | .e => { g with e := v }
  | .h => { g with h := v }
  | .l => { g with l := v }
  | .a => { g with a := v }

/-- Write a general register (R31). -/
def State.setReg8 (s : State) (r : Reg8) (v : Byte) : State := { s with regs := s.regs.setReg8 r v }

/-- Write F: its low nibble is always 0 (R33). -/
def State.setF (s : State) (v : Byte) : State := { s with regs := { s.regs with f := v &&& 0xF0 } }

/-- The pair HL (R32). -/
def State.hl (s : State) : Word := make16 s.regs.h s.regs.l

/-- The pair BC (R32). -/
def State.bc (s : State) : Word := make16 s.regs.b s.regs.c

/-- The pair DE (R32). -/
def State.de (s : State) : Word := make16 s.regs.d s.regs.e

/-- The pair AF (R32). -/
def State.af (s : State) : Word := make16 s.regs.a s.regs.f

/-- Write HL: both cells (R32). -/
def State.setHl (s : State) (w : Word) : State := { s with regs := { s.regs with h := hi8 w, l := lo8 w } }

/-- `r16[k]` read (R164). -/
def State.pair (s : State) (p : Pair) : Word :=
  match p with
  | .bc => s.bc
  | .de => s.de
  | .hl => s.hl
  | .sp => s.sp

/-- `r16[k] <- w` (R32, R164). -/
def State.setPair (s : State) (p : Pair) (w : Word) : State :=
  match p with
  | .bc => { s with regs := { s.regs with b := hi8 w, c := lo8 w } }
  | .de => { s with regs := { s.regs with d := hi8 w, e := lo8 w } }
  | .hl => s.setHl w
  | .sp => { s with sp := w }

/-- `r16stk[k]` read (R164). -/
def State.stackPair (s : State) (q : StackPair) : Word :=
  match q with
  | .bc => s.bc
  | .de => s.de
  | .hl => s.hl
  | .af => s.af

/-- `r16stk[k] <- w`; writing AF stores the low byte through the F rule (R32, R33, R307). -/
def State.setStackPair (s : State) (q : StackPair) (w : Word) : State :=
  match q with
  | .bc => s.setPair .bc w
  | .de => s.setPair .de w
  | .hl => s.setPair .hl w
  | .af => { s with regs := { s.regs with a := hi8 w, f := lo8 w &&& 0xF0 } }

end Sys2Proof.Machine
end

