-- ==== Sys2Proof/Machine/Flags.lean ====
section
/-! DEFINITION. The arithmetic/flags unit (40_alu.md R200 to R210), the flag policies of every
flag-writing instruction (R230), and their combination into F (R225). -/

namespace Sys2Proof.Machine

/-! ## The packed result -/

/-- A result of the unit: a value of 8 or 16 bits and four flags (R200). It is "a pure computation
result, never stored"; the 32-bit word is `Packed.word`. -/
structure Packed (k : Nat) where
  value : BitVec k
  z : Bool
  n : Bool
  h : Bool
  c : Bool
  deriving DecidableEq, Repr

/-- F from four flags: Z, N, Hf, Cy in bits 7 to 4, 0 below (R33, R225). -/
def flagByte (z n h c : Bool) : Byte :=
  BitVec.ofBool z ++ BitVec.ofBool n ++ BitVec.ofBool h ++ BitVec.ofBool c ++ (0 : BitVec 4)

/-- `pack(v, z, n, h, c)`: value in bits 31..8, flags in bits 7..4 (R200). -/
def Packed.word {k : Nat} (w : Packed k) : BitVec 32 :=
  w.value.setWidth 24 ++ flagByte w.z w.n w.h w.c

/-- The flags as bits of F (R33). -/
def flagZ (f : Byte) : Bool := f.getLsbD 7
def flagN (f : Byte) : Bool := f.getLsbD 6
def flagH (f : Byte) : Bool := f.getLsbD 5
def flagC (f : Byte) : Bool := f.getLsbD 4

/-! ## Addition and subtraction -/

/-- `add(l, r, c0)` (R202). -/
def add8 (l r : Byte) (c0 : Bool) : Packed 8 :=
  let s := l.toNat + r.toNat + c0.toNat
  { value := BitVec.ofNat 8 s, z := decide (s % 256 = 0), n := false,
    h := decide (l.toNat % 16 + r.toNat % 16 + c0.toNat > 15), c := decide (s > 255) }

/-- `sub(l, r, b0)` (R203). -/
def sub8 (l r : Byte) (b0 : Bool) : Packed 8 :=
  let v := BitVec.ofInt 8 (l.toNat - r.toNat - b0.toNat : Int)
  { value := v, z := decide (v = 0), n := true,
    h := decide (l.toNat % 16 < r.toNat % 16 + b0.toNat), c := decide (l.toNat < r.toNat + b0.toNat) }

/-- `add16L(l, r)`: flags from the low byte (R204). -/
def add16L (l r : Word) : Packed 16 :=
  { value := BitVec.ofNat 16 (l.toNat + r.toNat), z := false, n := false,
    h := decide (l.toNat % 16 + r.toNat % 16 > 15), c := decide (l.toNat % 256 + r.toNat % 256 > 255) }

/-- `add16H(l, r)`: flags from the high byte (R205). -/
def add16H (l r : Word) : Packed 16 :=
  { value := BitVec.ofNat 16 (l.toNat + r.toNat), z := false, n := false,
    h := decide (l.toNat % 4096 + r.toNat % 4096 > 0x0FFF), c := decide (l.toNat + r.toNat > 0xFFFF) }

/-! ## Logic -/

/-- `and(l, r)` (R206). -/
def and8 (l r : Byte) : Packed 8 :=
  { value := l &&& r, z := decide (l &&& r = 0), n := false, h := true, c := false }

/-- `or(l, r)` (R206). -/
def or8 (l r : Byte) : Packed 8 :=
  { value := l ||| r, z := decide (l ||| r = 0), n := false, h := false, c := false }

/-- `xor(l, r)` (R206). -/
def xor8 (l r : Byte) : Packed 8 :=
  { value := l ^^^ r, z := decide (l ^^^ r = 0), n := false, h := false, c := false }

/-! ## Shifts and rotates -/

/-- The common law of R207: Z from the shifted value, N and Hf 0, Cy the bit that fell off. -/
def shifted (r : Byte) (out : Bool) : Packed 8 :=
  { value := r, z := decide (r = 0), n := false, h := false, c := out }

/-- `shiftLeft(v)`, SLA (R207). -/
def shiftLeft (v : Byte) : Packed 8 := shifted (v.extractLsb' 0 7 ++ (0 : BitVec 1)) (v.getLsbD 7)

/-- `shiftRightA(v)`, SRA: bit 7 kept (R207). -/
def shiftRightA (v : Byte) : Packed 8 := shifted (v.extractLsb' 7 1 ++ v.extractLsb' 1 7) (v.getLsbD 0)

/-- `shiftRightL(v)`, SRL (R207). -/
def shiftRightL (v : Byte) : Packed 8 := shifted ((0 : BitVec 1) ++ v.extractLsb' 1 7) (v.getLsbD 0)

/-- `rotateLeft(v)`, RLC and RLCA (R207). -/
def rotateLeft (v : Byte) : Packed 8 := shifted (rotl8 v) (v.getLsbD 7)

/-- `rotateRight(v)`, RRC and RRCA (R207). -/
def rotateRight (v : Byte) : Packed 8 := shifted (rotr8 v) (v.getLsbD 0)

/-- `rotateLeftC(v, ci)`, RL and RLA (R207). -/
def rotateLeftC (v : Byte) (ci : Bool) : Packed 8 :=
  shifted (v.extractLsb' 0 7 ++ BitVec.ofBool ci) (v.getLsbD 7)

/-- `rotateRightC(v, ci)`, RR and RRA (R207). -/
def rotateRightC (v : Byte) (ci : Bool) : Packed 8 :=
  shifted (BitVec.ofBool ci ++ v.extractLsb' 1 7) (v.getLsbD 0)

/-- `swap(v)`: the nibbles exchanged (R208). -/
def swap8 (v : Byte) : Packed 8 := shifted (v.extractLsb' 0 4 ++ v.extractLsb' 4 4) false

/-- `testBit(v, i)`: Z is set when the bit is 0 (R209). -/
def testBit8 (v : Byte) (i : Fin 8) : Packed 8 :=
  { value := v, z := !v.getLsbD i.val, n := false, h := true, c := false }

/-! ## Decimal adjust -/

/-- `bcdAdjust(v, n, h, c)`: both conditions on the original `v` (R210). -/
def bcdAdjust (v : Byte) (n h c : Bool) : Packed 8 :=
  let fixL : Bool := h || (!n && decide (v.toNat % 16 > 9))
  let fixH : Bool := c || (!n && decide (v.toNat > 0x99))
  let fix : Byte := (if fixH then 0x60 else 0) + (if fixL then 0x06 else 0)
  let va := if n then v - fix else v + fix
  { value := va, z := decide (va = 0), n := n, h := false, c := fixH }

/-! ## Policies and combination -/

/-- The four-way policy of one flag (00_scope.md R16): `V`, `0`, `1`, `-`. -/
inductive Policy where
  | val | zero | one | keep
  deriving DecidableEq, Repr

/-- A flag's new value from the unit's flag and the old one (R225). -/
def Policy.apply (p : Policy) (unit old : Bool) : Bool :=
  match p with
  | .val => unit
  | .zero => false
  | .one => true
  | .keep => old

/-- An instruction's policy, in the order Z N Hf Cy (R230). -/
structure FlagPolicy where
  z : Policy
  n : Policy
  h : Policy
  c : Policy
  deriving DecidableEq, Repr

/-- All four flags replaced in one write, from the unit's result and the old F (R225). -/
def combine {k : Nat} (pol : FlagPolicy) (w : Packed k) (f : Byte) : Byte :=
  flagByte (pol.z.apply w.z (flagZ f)) (pol.n.apply w.n (flagN f)) (pol.h.apply w.h (flagH f))
    (pol.c.apply w.c (flagC f))

/-- `F <- combine` (R225). -/
def setFlags {k : Nat} (pol : FlagPolicy) (w : Packed k) (s : State) : State :=
  s.setF (combine pol w s.regs.f)

/-- The rows of the table of R230. -/
def polAdd : FlagPolicy := { z := .val, n := .zero, h := .val, c := .val }
def polSub : FlagPolicy := { z := .val, n := .one, h := .val, c := .val }
def polAnd : FlagPolicy := { z := .val, n := .zero, h := .one, c := .zero }
def polOr : FlagPolicy := { z := .val, n := .zero, h := .zero, c := .zero }
def polXor : FlagPolicy := { z := .val, n := .zero, h := .zero, c := .zero }
def polInc : FlagPolicy := { z := .val, n := .zero, h := .val, c := .keep }
def polDec : FlagPolicy := { z := .val, n := .one, h := .val, c := .keep }
def polDaa : FlagPolicy := { z := .val, n := .keep, h := .zero, c := .val }
def polCpl : FlagPolicy := { z := .keep, n := .one, h := .one, c := .keep }
def polScf : FlagPolicy := { z := .keep, n := .zero, h := .zero, c := .one }
def polCcf : FlagPolicy := { z := .keep, n := .zero, h := .zero, c := .val }
def polAddHl : FlagPolicy := { z := .keep, n := .zero, h := .val, c := .val }
def polAddSp : FlagPolicy := { z := .zero, n := .zero, h := .val, c := .val }
def polRotA : FlagPolicy := { z := .zero, n := .zero, h := .zero, c := .val }
def polRot : FlagPolicy := { z := .val, n := .zero, h := .zero, c := .val }
def polSwap : FlagPolicy := { z := .val, n := .zero, h := .zero, c := .zero }
def polBit : FlagPolicy := { z := .val, n := .zero, h := .one, c := .keep }

end Sys2Proof.Machine
end

