-- ==== Sys2Proof/Machine/Timer.lean ====
section
/-! DEFINITION. Requesting an interrupt (60_exceptions.md R521) and the timer (R554 to R559). -/

namespace Sys2Proof.Machine

/-- `RequestInterrupt(i)`, `i` in 0..4: `IF <- IF or 2^i` (R521). -/
def requestInterrupt (i : Fin 5) (s : State) : State :=
  { s with iflag := s.iflag ||| BitVec.ofNat 8 (2 ^ i.val) }

/-- The bit of the primary counter that `TAC[1:0]` selects (R53, R555). -/
def timerBit (tac : Byte) : Nat :=
  match (tac.extractLsb' 0 2).toNat with
  | 0 => 9
  | 1 => 3
  | 2 => 5
  | _ => 7

/-- `armed()` (R555). -/
def Timer.armed (t : Timer) : Bool := t.tac.getLsbD 2 && t.tDiv.getLsbD (timerBit t.tac)

/-- `TimaTick()` (R556). -/
def timaTick (s : State) : State :=
  if s.timer.tima = 0xFF then
    requestInterrupt 2 { s with timer := { s.timer with tima := s.timer.tma } }
  else
    { s with timer := { s.timer with tima := s.timer.tima + 1 } }

/-- Replace the timer's state and tick `TIMA` on a falling edge of the armed state: the common form of
R554, R557 and R559. -/
def timerEdge (t : Timer) (s : State) : State :=
  let s' := { s with timer := t }
  if s.timer.armed && !t.armed then timaTick s' else s'

/-- `TimerStep(c)` (R554). -/
def timerStep (s : State) : State :=
  timerEdge { s.timer with tDiv := s.timer.tDiv + Config.timerStep } s

/-- Write to DIV, any value (R557). -/
def writeDiv (s : State) : State := timerEdge { s.timer with tDiv := 0 } s

/-- Write to TAC (R559). -/
def writeTac (v : Byte) (s : State) : State := timerEdge { s.timer with tac := v } s

end Sys2Proof.Machine
end

