-- ==== Sys2Proof/Machine/LcdRegs.lean ====
section
/-! DEFINITION. The display controller's register actions: modes, the line counter, power-off and the
bus writes to its registers (61_display_controller.md R602 to R612). -/

namespace Sys2Proof.Machine

/-- `MODE`, `STAT[1:0]` (R62, R73). -/
def Lcd.mode (d : Lcd) : BitVec 2 := d.stat.extractLsb' 0 2

/-- `STAT[1:0] <- m`, without a request (R605, R612). -/
def Lcd.withMode (d : Lcd) (m : BitVec 2) : Lcd := { d with stat := (d.stat &&& 0xFC) ||| m.setWidth 8 }

/-- Does entry into mode `m` request the status interrupt? MODE_3 has no enable bit (R605). -/
def Lcd.modeRequests (d : Lcd) (m : BitVec 2) : Bool :=
  (m == 0 && d.stat.getLsbD 3) || (m == 1 && d.stat.getLsbD 4) || (m == 2 && d.stat.getLsbD 5)

/-- `SetMode(m)` (R605). -/
def setMode (m : BitVec 2) (s : State) : State :=
  let s' := { s with lcd := s.lcd.withMode m }
  if s.lcd.modeRequests m then requestInterrupt 1 s' else s'

/-- `Coincidence()` (R606). -/
def coincidence (s : State) : State :=
  if s.lcd.ly = s.lcd.lyc then
    let s' := { s with lcd := { s.lcd with stat := s.lcd.stat ||| 0x04 } }
    if s.lcd.stat.getLsbD 6 then requestInterrupt 1 s' else s'
  else
    { s with lcd := { s.lcd with stat := s.lcd.stat &&& 0xFB } }

/-- `SetLY(n)` (R606). -/
def setLy (n : Byte) (s : State) : State := coincidence { s with lcd := { s.lcd with ly := n } }

/-- `PowerOff()` (R612). -/
def powerOff (s : State) : State :=
  let s1 := setLy 0 { s with lcd := s.lcd.withMode 0 }
  { s1 with lcd := { s1.lcd with next := none } }

/-- Write to LCDC: bit 7 at 0 runs the power-off action (R602, R612). -/
def writeLcdc (v : Byte) (s : State) : State :=
  let s' := { s with lcd := { s.lcd with lcdc := v } }
  if v.getLsbD 7 then s' else powerOff s'

/-- Write to STAT: bits 2..0 are not writable (R62, R602). -/
def writeStat (v : Byte) (s : State) : State :=
  { s with lcd := { s.lcd with stat := (v &&& 0xF8) ||| (s.lcd.stat &&& 0x07) } }

/-- Write to LYC (R65, R602). -/
def writeLyc (v : Byte) (s : State) : State := coincidence { s with lcd := { s.lcd with lyc := v } }

/-- Write to DMA: starts a quick-copy from `v * 256` (R66, R602, R660). -/
def writeDma (v : Byte) (s : State) : State :=
  { s with lcd := { s.lcd with dma := v, dmaSrc := make16 v 0, dmaIdx := 0 } }

end Sys2Proof.Machine
end

