-- ==== Sys2Proof/Machine/Bus.lean ====
section
/-! DEFINITION. The bus: seven devices in a fixed order, first-answer reads, writes to all
(20_memory.md R100 to R116). Addresses are 16 bits by type; the sites where an unwrapped sum may leave the
address space check it themselves (R107). `none` is the answer NONE (R102). -/

namespace Sys2Proof.Machine

/-- `lo <= a <= hi` as numbers. -/
def inRange (a lo hi : Word) : Bool := decide (lo.toNat ≤ a.toNat) && decide (a.toNat ≤ hi.toNat)

/-! ## Work RAM and its echo (R111) -/

def wramRead (s : State) (a : Word) : Option Byte :=
  if inRange a 0xC000 0xDFFF then some (s.mem.read a.toNat) else none

def wramWrite (a : Word) (v : Byte) (s : State) : State :=
  if inRange a 0xC000 0xDFFF then { s with mem := s.mem.write a.toNat v } else s

/-- The echo's byte `a - 0xE000` of WRAM, which is kept under its address in 0xC000..0xDDFF. -/
def echoKey (a : Word) : Nat := a.toNat - 0x2000

def echoRead (s : State) (a : Word) : Option Byte :=
  if inRange a 0xE000 0xFDFF then some (s.mem.read (echoKey a)) else none

def echoWrite (a : Word) (v : Byte) (s : State) : State :=
  if inRange a 0xE000 0xFDFF then { s with mem := s.mem.write (echoKey a) v } else s

/-! ## The processor as a device (R40, R110) -/

def cpuRead (s : State) (a : Word) : Option Byte :=
  if a = 0xFFFF then some s.ie
  else if a = 0xFF0F then some s.iflag
  else if inRange a 0xFF80 0xFFFE then some (s.mem.read a.toNat)
  else none

def cpuWrite (a : Word) (v : Byte) (s : State) : State :=
  if a = 0xFFFF then { s with ie := v }
  else if a = 0xFF0F then { s with iflag := v }
  else if inRange a 0xFF80 0xFFFE then { s with mem := s.mem.write a.toNat v }
  else s

/-! ## The external device Ext (R112; notes/assumptions/2.md) -/

def Cartridge.read (c : Cartridge) (a : Word) : Option Byte :=
  if c.bootMapped && inRange a 0x0000 0x00FF then some (c.boot.read a.toNat)
  else if inRange a 0x0000 0x7FFF then some (c.bytes.read a.toNat)
  else if c.ramPresent && inRange a 0xA000 0xBFFF then some (c.bytes.read a.toNat)
  else none

def Cartridge.write (c : Cartridge) (a : Word) (v : Byte) : Cartridge :=
  if a = 0xFF50 then { c with bootMapped := false }
  else if c.romWritable && inRange a 0x0000 0x7FFF then { c with bytes := c.bytes.write a.toNat v }
  else if c.ramPresent && inRange a 0xA000 0xBFFF then { c with bytes := c.bytes.write a.toNat v }
  else c

/-- The windows outside which Ext answers NONE: a duty of the host (R112, D23). -/
def inExtWindow (a : Word) : Bool := inRange a 0x0000 0x7FFF || inRange a 0xA000 0xBFFF

/-- `Ext.read(s, a)`. -/
def Ext.read (e : Ext) (a : Word) : Option Byte :=
  match e with
  | .cartridge c => c.read a
  | .given st => if inExtWindow a then Config.extRead st a else none

/-- `Ext.write(s, a, v)`: a write outside Ext's windows and 0xFF50 is ignored (R102). -/
def Ext.write (e : Ext) (a : Word) (v : Byte) : Ext :=
  match e with
  | .cartridge c => .cartridge (c.write a v)
  | .given st => if inExtWindow a || a = 0xFF50 then .given (Config.extWrite st a v) else .given st

def extRead (s : State) (a : Word) : Option Byte := s.ext.read a

def extWrite (a : Word) (v : Byte) (s : State) : State := { s with ext := s.ext.write a v }

/-! ## The timer as a device (R113) -/

def timerRead (s : State) (a : Word) : Option Byte :=
  if a = 0xFF04 then some (hi8 s.timer.tDiv)
  else if a = 0xFF05 then some s.timer.tima
  else if a = 0xFF06 then some s.timer.tma
  else if a = 0xFF07 then some s.timer.tac
  else none

def timerWrite (a : Word) (v : Byte) (s : State) : State :=
  if a = 0xFF04 then writeDiv s
  else if a = 0xFF05 then { s with timer := { s.timer with tima := v } }
  else if a = 0xFF06 then { s with timer := { s.timer with tma := v } }
  else if a = 0xFF07 then writeTac v s
  else s

/-! ## The display controller as a device (R60, R114, R602, R603) -/

/-- The twelve registers read back as they are stored (R60, R603). -/
def displayReg (d : Lcd) (a : Word) : Option Byte :=
  if a = 0xFF40 then some d.lcdc
  else if a = 0xFF41 then some d.stat
  else if a = 0xFF42 then some d.scy
  else if a = 0xFF43 then some d.scx
  else if a = 0xFF44 then some d.ly
  else if a = 0xFF45 then some d.lyc
  else if a = 0xFF46 then some d.dma
  else if a = 0xFF47 then some d.bgp
  else if a = 0xFF48 then some d.obp0
  else if a = 0xFF49 then some d.obp1
  else if a = 0xFF4A then some d.wy
  else if a = 0xFF4B then some d.wx
  else none

def displayRead (s : State) (a : Word) : Option Byte :=
  if inRange a 0x8000 0x9FFF then some (s.mem.read a.toNat)
  else if inRange a 0xFE00 0xFE9F then some (s.mem.read a.toNat)
  else displayReg s.lcd a

/-- LY (0xFF44) has no arm: a bus write to it is ignored (R64, R602). -/
def displayWrite (a : Word) (v : Byte) (s : State) : State :=
  if inRange a 0x8000 0x9FFF then { s with mem := s.mem.write a.toNat v }
  else if inRange a 0xFE00 0xFE9F then { s with mem := s.mem.write a.toNat v }
  else if a = 0xFF40 then writeLcdc v s
  else if a = 0xFF41 then writeStat v s
  else if a = 0xFF42 then { s with lcd := { s.lcd with scy := v } }
  else if a = 0xFF43 then { s with lcd := { s.lcd with scx := v } }
  else if a = 0xFF45 then writeLyc v s
  else if a = 0xFF46 then writeDma v s
  else if a = 0xFF47 then { s with lcd := { s.lcd with bgp := v } }
  else if a = 0xFF48 then { s with lcd := { s.lcd with obp0 := v } }
  else if a = 0xFF49 then { s with lcd := { s.lcd with obp1 := v } }
  else if a = 0xFF4A then { s with lcd := { s.lcd with wy := v } }
  else if a = 0xFF4B then { s with lcd := { s.lcd with wx := v } }
  else s

/-! ## The external device Joypad (R112; notes/assumptions/3.md) -/

/-- `Joypad.read(s, a)`: NONE outside 0xFF00, a duty of the host (R112, D23). -/
def Joypad.read (j : Joypad) (a : Word) : Option Byte :=
  if a = 0xFF00 then
    match j with
    | .noJoypad => none
    | .fixed v => some v
    | .given st => Config.joypadRead st a
  else none

/-- `Joypad.write(s, a, v)`: a write outside 0xFF00 is ignored (R102). -/
def Joypad.write (j : Joypad) (a : Word) (v : Byte) : Joypad :=
  match j with
  | .given st => if a = 0xFF00 then .given (Config.joypadWrite st a v) else j
  | _ => j

def joypadRead (s : State) (a : Word) : Option Byte := s.joypad.read a

def joypadWrite (a : Word) (v : Byte) (s : State) : State := { s with joypad := s.joypad.write a v }

/-! ## The bus -/

/-- The first answer that is not NONE, else the floating-bus value (R103). -/
def firstAnswer (answers : List (Option Byte)) : Byte :=
  match answers with
  | [] => Config.floatingBus
  | some v :: _ => v
  | none :: rest => firstAnswer rest

/-- `BusRead(a)` (R103), in the order of R101. -/
def busRead (s : State) (a : Word) : Byte :=
  firstAnswer [wramRead s a, echoRead s a, cpuRead s a, extRead s a, timerRead s a, displayRead s a,
    joypadRead s a]

/-- `BusWrite(a, v)`: every device, in the order of R101 (R104). -/
def busWrite (a : Word) (v : Byte) (s : State) : State :=
  joypadWrite a v (displayWrite a v (timerWrite a v (extWrite a v (cpuWrite a v (echoWrite a v
    (wramWrite a v s))))))

/-- `BusRead(a)` of any number: outside 0..65535 it raises `AddressRangeFault(a)` (R103, R107). -/
def busReadAt (a : Nat) (s : State) : Except Fault Byte :=
  if a < Config.addressLimit then .ok (busRead s (BitVec.ofNat 16 a)) else .error (.addressRange a)

/-- `BusWrite(a, v)` of any number (R104, R107). -/
def busWriteAt (a : Nat) (v : Byte) (s : State) : Except Fault State :=
  if a < Config.addressLimit then .ok (busWrite (BitVec.ofNat 16 a) v s) else .error (.addressRange a)

end Sys2Proof.Machine
end

