-- ==== Sys2Proof/Machine/Ops.lean ====
section
/-! DEFINITION. The named operations the meanings share: the end of an instruction, 2-byte memory
accesses, the stack, raising a fault, taking an interrupt and returning from one. Every one of them checks
for its fault before it changes anything (20_memory.md R107, 60_exceptions.md R540). -/

namespace Sys2Proof.Machine

/-- What a meaning answers. -/
abbrev Result := Host.Outcome State Fault Refusal

/-! ## The end of an instruction (30_encoding.md R168) -/

/-- `PC <- clip_16(target)`, `cpuNext <- c + cycles`. -/
def jumpTo (target : Word) (cycles : Nat) (s : State) : State :=
  { s with pc := target, cpuNext := some (s.cycle + cycles) }

/-- `nextPC = PC + len`: the end of an instruction that transfers no control. -/
def advance (len : Word) (cycles : Nat) (s : State) : State := jumpTo (s.pc + len) cycles s

/-! ## Faults (00_scope.md R15, 60_exceptions.md R540) -/

/-- Raise a fault: no state change but the mark, which puts the machine in the faulted state. -/
def raiseFault (f : Fault) (s : State) : State := { s with fault := some f }

/-- The one address fault an instruction or a dispatch can raise (R107). -/
def addressFault : Fault := .addressRange Config.addressLimit

/-! ## 2-byte accesses (R13, R120, R122) -/

/-- `MemRead(a, 2)` for `a` below 0xFFFF: high byte from `a + 1`, low byte from `a`. -/
def memRead16 (s : State) (a : Word) : Word := make16 (busRead s (a + 1)) (busRead s a)

/-- `MemWrite(a, 2, w)` for `a` below 0xFFFF: the low byte first, at the lower address. -/
def memWrite16 (a w : Word) (s : State) : State := busWrite (a + 1) (hi8 w) (busWrite a (lo8 w) s)

/-- Does the second byte of a 2-byte access at `a` lie above 0xFFFF? (R107) -/
def secondByteOut (a : Word) : Bool := a == 0xFFFF

/-! ## The stack (42_load16_stack.md R300, R301) -/

/-- The address a push stores its low byte at: `clip_16(SP - 2)` (R300). -/
def pushAddr (s : State) : Word := s.sp - 2

/-- Does `Push16` raise `AddressRangeFault`? Exactly for `SP = 0x0001` (R300). -/
def pushFaults (s : State) : Bool := secondByteOut (pushAddr s)

/-- `Push16(w)` where it does not fault (R300). -/
def push16 (w : Word) (s : State) : State := memWrite16 (pushAddr s) w { s with sp := pushAddr s }

/-- Does `Pop16` raise `AddressRangeFault`? Exactly for `SP = 0xFFFF` (R301). -/
def popFaults (s : State) : Bool := secondByteOut s.sp

/-- The word `Pop16` returns (R301). -/
def popValue (s : State) : Word := memRead16 s s.sp

/-- `SP <- clip_16(SP + 2)` (R301). -/
def popSp (s : State) : State := { s with sp := s.sp + 2 }

/-! ## Taking an interrupt and returning from one -/

/-- The fixed handler address of interrupt `i` (60_exceptions.md R520). -/
def handlerAddress (i : Fin 5) : Word := 0x0040 + BitVec.ofNat 16 (8 * i.val)

/-- `pending = IE and IF and 0x1F` (R520, R530). -/
def pending (s : State) : Byte := s.ie &&& s.iflag &&& 0x1F

/-- The lowest pending index, the highest priority (R534a). -/
def lowestPending (p : Byte) : Option (Fin 5) :=
  if p.getLsbD 0 then some 0
  else if p.getLsbD 1 then some 1
  else if p.getLsbD 2 then some 2
  else if p.getLsbD 3 then some 3
  else if p.getLsbD 4 then some 4
  else none

/-- `Dispatch(i)` (R532): in this order IME cleared, IF bit cleared, PC pushed, PC at the handler. -/
def dispatch (i : Fin 5) (s : State) : State :=
  if pushFaults s then raiseFault addressFault s
  else
    let s1 := { s with ime := false, iflag := s.iflag &&& ~~~(BitVec.ofNat 8 (2 ^ i.val)) }
    jumpTo (handlerAddress i) Config.dispatchCycles (push16 s.pc s1)

/-- `nextPC <- Pop16()` (R458, R301). -/
def returnTo (cycles : Nat) (s : State) : State :=
  if popFaults s then raiseFault addressFault s else jumpTo (popValue s) cycles (popSp s)

/-- The return from a handler: `nextPC <- Pop16(); IME <- 1`, IME untouched if the pop faults (R460, R535). -/
def returnFromInterrupt (cycles : Nat) (s : State) : State :=
  if popFaults s then raiseFault addressFault s
  else { jumpTo (popValue s) cycles (popSp s) with ime := true }

end Sys2Proof.Machine
end

