-- ==== Sys2Proof/Machine/Operands.lean ====
section
/-! DEFINITION. Operand forms: effective addresses (41_load8.md R270), immediates (30_encoding.md R166),
8-bit operand sources (R163), conditions (46_control.md R450). -/

namespace Sys2Proof.Machine

/-- `0xFF00 + a8`, and `0xFF00 + C`: a page-0xFF address (R166, R270). -/
def pageFF (a : Byte) : Word := 0xFF00 + zext16 a

/-- `HL <- clip_16(HL + 1)` (R265, R267). -/
def incHlPtr (s : State) : State := s.setHl (s.hl + 1)

/-- `HL <- clip_16(HL - 1)` (R266, R268). -/
def decHlPtr (s : State) : State := s.setHl (s.hl - 1)

/-- The target of a relative jump: `clip_16(PC + 2 + sext_16(e8))` (R454). -/
def relTarget (e : Byte) (s : State) : Word := s.pc + 2 + sext16 e

/-- The byte at HL. -/
def readHl (s : State) : Byte := busRead s s.hl

/-- Store to the byte at HL. -/
def writeHl (v : Byte) (s : State) : State := busWrite s.hl v s

/-- Does the condition hold on F? (R450) -/
def condHolds (cc : Cond) (s : State) : Bool :=
  match cc with
  | .nz => !flagZ s.regs.f
  | .z => flagZ s.regs.f
  | .nc => !flagC s.regs.f
  | .c => flagC s.regs.f

end Sys2Proof.Machine
end

