-- ==== Sys2Proof/Machine/Arith16.lean ====
section
/-! DEFINITION. The 16-bit arithmetic instructions (44_arith16.md R380 to R383). -/

namespace Sys2Proof.Machine

/-- `w <- add16H(HL, r16[p]); HL <- value(w)` (R380). -/
def addToHl (p : Pair) (s : State) : State :=
  let w := add16H s.hl (s.pair p)
  advance 1 2 (setFlags polAddHl w (s.setHl w.value))

/-- `r16[p] <- clip_16(r16[p] + 1)` (R381). -/
def incPair (p : Pair) (s : State) : State := advance 1 2 (s.setPair p (s.pair p + 1))

/-- `r16[p] <- clip_16(r16[p] - 1)` (R382). -/
def decPair (p : Pair) (s : State) : State := advance 1 2 (s.setPair p (s.pair p - 1))

/-- `w <- add16L(SP, sext_16(e8)); SP <- value(w)` (R383). -/
def addToSp (e : Byte) (s : State) : State :=
  let w := add16L s.sp (sext16 e)
  advance 2 4 (setFlags polAddSp w (s.setPair .sp w.value))

/-! ## One meaning per row -/

/-- `INC BC` (R381). -/
def execIncBc (s : State) : Result := .next (incPair .bc s)

/-- `ADD HL,BC` (R380). -/
def execAddHlBc (s : State) : Result := .next (addToHl .bc s)

/-- `DEC BC` (R382). -/
def execDecBc (s : State) : Result := .next (decPair .bc s)

/-- `INC DE` (R381). -/
def execIncDe (s : State) : Result := .next (incPair .de s)

/-- `ADD HL,DE` (R380). -/
def execAddHlDe (s : State) : Result := .next (addToHl .de s)

/-- `DEC DE` (R382). -/
def execDecDe (s : State) : Result := .next (decPair .de s)

/-- `INC HL` (R381). -/
def execIncHl (s : State) : Result := .next (incPair .hl s)

/-- `ADD HL,HL` (R380). -/
def execAddHlHl (s : State) : Result := .next (addToHl .hl s)

/-- `DEC HL` (R382). -/
def execDecHl (s : State) : Result := .next (decPair .hl s)

/-- `INC SP` (R381). -/
def execIncSp (s : State) : Result := .next (incPair .sp s)

/-- `ADD HL,SP` (R380). -/
def execAddHlSp (s : State) : Result := .next (addToHl .sp s)

/-- `DEC SP` (R382). -/
def execDecSp (s : State) : Result := .next (decPair .sp s)

/-- `ADD SP,e8` (R383). -/
def execAddSpE8 (e : Byte) (s : State) : Result := .next (addToSp e s)

end Sys2Proof.Machine
end

