-- ==== Sys2Proof/Machine/Arith8.lean ====
section
/-! DEFINITION. The 8-bit arithmetic and logic instructions (43_arith8.md R330 to R362). -/

namespace Sys2Proof.Machine

/-- The unit's function of `alu[y]`, on A, the operand and the old Cy (R330 to R352, R230). -/
def aluUnit (op : AluOp) (a x : Byte) (cy : Bool) : Packed 8 :=
  match op with
  | .add => add8 a x false
  | .adc => add8 a x cy
  | .sub => sub8 a x false
  | .sbc => sub8 a x cy
  | .and => and8 a x
  | .xor => xor8 a x
  | .or => or8 a x
  | .cp => sub8 a x false

/-- The flag policy of `alu[y]` (R230). -/
def aluPolicy (op : AluOp) : FlagPolicy :=
  match op with
  | .add => polAdd
  | .adc => polAdd
  | .sub => polSub
  | .sbc => polSub
  | .and => polAnd
  | .xor => polXor
  | .or => polOr
  | .cp => polSub

/-- What `alu[y]` leaves in A: its value, but `CP` discards it (R352). -/
def aluValue (op : AluOp) (a x : Byte) (cy : Bool) : Byte :=
  match op with
  | .cp => a
  | _ => (aluUnit op a x cy).value

/-- `alu[y]` of A with the operand `x`: A and the flags. -/
def aluOn (op : AluOp) (x : Byte) (s : State) : State :=
  setFlags (aluPolicy op) (aluUnit op s.regs.a x (flagC s.regs.f))
    (s.setReg8 .a (aluValue op s.regs.a x (flagC s.regs.f)))

/-- Register form (R330). -/
def aluReg (op : AluOp) (r : Reg8) (s : State) : State := advance 1 1 (aluOn op (s.reg8 r) s)

/-- Memory form (R330). -/
def aluAtHl (op : AluOp) (s : State) : State := advance 1 2 (aluOn op (readHl s) s)

/-- Immediate form (R330). -/
def aluImm (op : AluOp) (n : Byte) (s : State) : State := advance 2 2 (aluOn op n s)

/-- `w <- add(r8[y], 1, 0); r8[y] <- value(w)` (R355). -/
def incReg (r : Reg8) (s : State) : State :=
  let w := add8 (s.reg8 r) 1 false
  advance 1 1 (setFlags polInc w (s.setReg8 r w.value))

/-- `w <- add(BusRead(HL), 1, 0); BusWrite(HL, value(w))` (R356). -/
def incAtHl (s : State) : State :=
  let w := add8 (readHl s) 1 false
  advance 1 3 (setFlags polInc w (writeHl w.value s))

/-- `w <- sub(r8[y], 1, 0); r8[y] <- value(w)` (R357). -/
def decReg (r : Reg8) (s : State) : State :=
  let w := sub8 (s.reg8 r) 1 false
  advance 1 1 (setFlags polDec w (s.setReg8 r w.value))

/-- `w <- sub(BusRead(HL), 1, 0); BusWrite(HL, value(w))` (R358). -/
def decAtHl (s : State) : State :=
  let w := sub8 (readHl s) 1 false
  advance 1 3 (setFlags polDec w (writeHl w.value s))

/-- `w <- bcdAdjust(A, N, Hf, Cy); A <- value(w)` (R359). -/
def decimalAdjust (s : State) : State :=
  let w := bcdAdjust s.regs.a (flagN s.regs.f) (flagH s.regs.f) (flagC s.regs.f)
  advance 1 1 (setFlags polDaa w (s.setReg8 .a w.value))

/-- What takes the unit's place where R230 says "none": only the carry a `V` entry names. -/
def noUnit (cy : Bool) : Packed 8 := { value := 0, z := false, n := false, h := false, c := cy }

/-- `A <- complement8(A)` (R360). -/
def complementA (s : State) : State :=
  advance 1 1 (setFlags polCpl (noUnit false) (s.setReg8 .a (complement8 s.regs.a)))

/-- Carry set (R361). -/
def setCarry (s : State) : State := advance 1 1 (setFlags polScf (noUnit false) s)

/-- Carry complemented (R362). -/
def complementCarry (s : State) : State :=
  advance 1 1 (setFlags polCcf (noUnit (!flagC s.regs.f)) s)

/-! ## One meaning per row -/

/-- `INC B` (R355). -/
def execIncB (s : State) : Result := .next (incReg .b s)

/-- `DEC B` (R357). -/
def execDecB (s : State) : Result := .next (decReg .b s)

/-- `INC C` (R355). -/
def execIncC (s : State) : Result := .next (incReg .c s)

/-- `DEC C` (R357). -/
def execDecC (s : State) : Result := .next (decReg .c s)

/-- `INC D` (R355). -/
def execIncD (s : State) : Result := .next (incReg .d s)

/-- `DEC D` (R357). -/
def execDecD (s : State) : Result := .next (decReg .d s)

/-- `INC E` (R355). -/
def execIncE (s : State) : Result := .next (incReg .e s)

/-- `DEC E` (R357). -/
def execDecE (s : State) : Result := .next (decReg .e s)

/-- `INC H` (R355). -/
def execIncH (s : State) : Result := .next (incReg .h s)

/-- `DEC H` (R357). -/
def execDecH (s : State) : Result := .next (decReg .h s)

/-- `DAA` (R359). -/
def execDaa (s : State) : Result := .next (decimalAdjust s)

/-- `INC L` (R355). -/
def execIncL (s : State) : Result := .next (incReg .l s)

/-- `DEC L` (R357). -/
def execDecL (s : State) : Result := .next (decReg .l s)

/-- `CPL` (R360). -/
def execCpl (s : State) : Result := .next (complementA s)

/-- `INC (HL)` (R356). -/
def execIncAtHl (s : State) : Result := .next (incAtHl s)

/-- `DEC (HL)` (R358). -/
def execDecAtHl (s : State) : Result := .next (decAtHl s)

/-- `SCF` (R361). -/
def execScf (s : State) : Result := .next (setCarry s)

/-- `INC A` (R355). -/
def execIncA (s : State) : Result := .next (incReg .a s)

/-- `DEC A` (R357). -/
def execDecA (s : State) : Result := .next (decReg .a s)

/-- `CCF` (R362). -/
def execCcf (s : State) : Result := .next (complementCarry s)

/-- `ADD A,B` (R331). -/
def execAddAB (s : State) : Result := .next (aluReg .add .b s)

/-- `ADD A,C` (R331). -/
def execAddAC (s : State) : Result := .next (aluReg .add .c s)

/-- `ADD A,D` (R331). -/
def execAddAD (s : State) : Result := .next (aluReg .add .d s)

/-- `ADD A,E` (R331). -/
def execAddAE (s : State) : Result := .next (aluReg .add .e s)

/-- `ADD A,H` (R331). -/
def execAddAH (s : State) : Result := .next (aluReg .add .h s)

/-- `ADD A,L` (R331). -/
def execAddAL (s : State) : Result := .next (aluReg .add .l s)

/-- `ADD A,(HL)` (R332). -/
def execAddAAtHl (s : State) : Result := .next (aluAtHl .add s)

/-- `ADD A,A` (R331). -/
def execAddAA (s : State) : Result := .next (aluReg .add .a s)

/-- `ADC A,B` (R334). -/
def execAdcAB (s : State) : Result := .next (aluReg .adc .b s)

/-- `ADC A,C` (R334). -/
def execAdcAC (s : State) : Result := .next (aluReg .adc .c s)

/-- `ADC A,D` (R334). -/
def execAdcAD (s : State) : Result := .next (aluReg .adc .d s)

/-- `ADC A,E` (R334). -/
def execAdcAE (s : State) : Result := .next (aluReg .adc .e s)

/-- `ADC A,H` (R334). -/
def execAdcAH (s : State) : Result := .next (aluReg .adc .h s)

/-- `ADC A,L` (R334). -/
def execAdcAL (s : State) : Result := .next (aluReg .adc .l s)

/-- `ADC A,(HL)` (R335). -/
def execAdcAAtHl (s : State) : Result := .next (aluAtHl .adc s)

/-- `ADC A,A` (R334). -/
def execAdcAA (s : State) : Result := .next (aluReg .adc .a s)

/-- `SUB B` (R337). -/
def execSubB (s : State) : Result := .next (aluReg .sub .b s)

/-- `SUB C` (R337). -/
def execSubC (s : State) : Result := .next (aluReg .sub .c s)

/-- `SUB D` (R337). -/
def execSubD (s : State) : Result := .next (aluReg .sub .d s)

/-- `SUB E` (R337). -/
def execSubE (s : State) : Result := .next (aluReg .sub .e s)

/-- `SUB H` (R337). -/
def execSubH (s : State) : Result := .next (aluReg .sub .h s)

/-- `SUB L` (R337). -/
def execSubL (s : State) : Result := .next (aluReg .sub .l s)

/-- `SUB (HL)` (R338). -/
def execSubAtHl (s : State) : Result := .next (aluAtHl .sub s)

/-- `SUB A` (R337). -/
def execSubA (s : State) : Result := .next (aluReg .sub .a s)

/-- `SBC A,B` (R340). -/
def execSbcAB (s : State) : Result := .next (aluReg .sbc .b s)

/-- `SBC A,C` (R340). -/
def execSbcAC (s : State) : Result := .next (aluReg .sbc .c s)

/-- `SBC A,D` (R340). -/
def execSbcAD (s : State) : Result := .next (aluReg .sbc .d s)

/-- `SBC A,E` (R340). -/
def execSbcAE (s : State) : Result := .next (aluReg .sbc .e s)

/-- `SBC A,H` (R340). -/
def execSbcAH (s : State) : Result := .next (aluReg .sbc .h s)

/-- `SBC A,L` (R340). -/
def execSbcAL (s : State) : Result := .next (aluReg .sbc .l s)

/-- `SBC A,(HL)` (R341). -/
def execSbcAAtHl (s : State) : Result := .next (aluAtHl .sbc s)

/-- `SBC A,A` (R340). -/
def execSbcAA (s : State) : Result := .next (aluReg .sbc .a s)

/-- `AND B` (R343). -/
def execAndB (s : State) : Result := .next (aluReg .and .b s)

/-- `AND C` (R343). -/
def execAndC (s : State) : Result := .next (aluReg .and .c s)

/-- `AND D` (R343). -/
def execAndD (s : State) : Result := .next (aluReg .and .d s)

/-- `AND E` (R343). -/
def execAndE (s : State) : Result := .next (aluReg .and .e s)

/-- `AND H` (R343). -/
def execAndH (s : State) : Result := .next (aluReg .and .h s)

/-- `AND L` (R343). -/
def execAndL (s : State) : Result := .next (aluReg .and .l s)

/-- `AND (HL)` (R344). -/
def execAndAtHl (s : State) : Result := .next (aluAtHl .and s)

/-- `AND A` (R343). -/
def execAndA (s : State) : Result := .next (aluReg .and .a s)

/-- `XOR B` (R346). -/
def execXorB (s : State) : Result := .next (aluReg .xor .b s)

/-- `XOR C` (R346). -/
def execXorC (s : State) : Result := .next (aluReg .xor .c s)

/-- `XOR D` (R346). -/
def execXorD (s : State) : Result := .next (aluReg .xor .d s)

/-- `XOR E` (R346). -/
def execXorE (s : State) : Result := .next (aluReg .xor .e s)

/-- `XOR H` (R346). -/
def execXorH (s : State) : Result := .next (aluReg .xor .h s)

/-- `XOR L` (R346). -/
def execXorL (s : State) : Result := .next (aluReg .xor .l s)

/-- `XOR (HL)` (R347). -/
def execXorAtHl (s : State) : Result := .next (aluAtHl .xor s)

/-- `XOR A` (R346). -/
def execXorA (s : State) : Result := .next (aluReg .xor .a s)

/-- `OR B` (R349). -/
def execOrB (s : State) : Result := .next (aluReg .or .b s)

/-- `OR C` (R349). -/
def execOrC (s : State) : Result := .next (aluReg .or .c s)

/-- `OR D` (R349). -/
def execOrD (s : State) : Result := .next (aluReg .or .d s)

/-- `OR E` (R349). -/
def execOrE (s : State) : Result := .next (aluReg .or .e s)

/-- `OR H` (R349). -/
def execOrH (s : State) : Result := .next (aluReg .or .h s)

/-- `OR L` (R349). -/
def execOrL (s : State) : Result := .next (aluReg .or .l s)

/-- `OR (HL)` (R350). -/
def execOrAtHl (s : State) : Result := .next (aluAtHl .or s)

/-- `OR A` (R349). -/
def execOrA (s : State) : Result := .next (aluReg .or .a s)

/-- `CP B` (R352). -/
def execCpB (s : State) : Result := .next (aluReg .cp .b s)

/-- `CP C` (R352). -/
def execCpC (s : State) : Result := .next (aluReg .cp .c s)

/-- `CP D` (R352). -/
def execCpD (s : State) : Result := .next (aluReg .cp .d s)

/-- `CP E` (R352). -/
def execCpE (s : State) : Result := .next (aluReg .cp .e s)

/-- `CP H` (R352). -/
def execCpH (s : State) : Result := .next (aluReg .cp .h s)

/-- `CP L` (R352). -/
def execCpL (s : State) : Result := .next (aluReg .cp .l s)

/-- `CP (HL)` (R353). -/
def execCpAtHl (s : State) : Result := .next (aluAtHl .cp s)

/-- `CP A` (R352). -/
def execCpA (s : State) : Result := .next (aluReg .cp .a s)

/-- `ADD A,n8` (R333). -/
def execAddAN8 (n : Byte) (s : State) : Result := .next (aluImm .add n s)

/-- `ADC A,n8` (R336). -/
def execAdcAN8 (n : Byte) (s : State) : Result := .next (aluImm .adc n s)

/-- `SUB n8` (R339). -/
def execSubN8 (n : Byte) (s : State) : Result := .next (aluImm .sub n s)

/-- `SBC A,n8` (R342). -/
def execSbcAN8 (n : Byte) (s : State) : Result := .next (aluImm .sbc n s)

/-- `AND n8` (R345). -/
def execAndN8 (n : Byte) (s : State) : Result := .next (aluImm .and n s)

/-- `XOR n8` (R348). -/
def execXorN8 (n : Byte) (s : State) : Result := .next (aluImm .xor n s)

/-- `OR n8` (R351). -/
def execOrN8 (n : Byte) (s : State) : Result := .next (aluImm .or n s)

/-- `CP n8` (R354). -/
def execCpN8 (n : Byte) (s : State) : Result := .next (aluImm .cp n s)

end Sys2Proof.Machine
end

