-- ==== Sys2Proof/Machine/Control.lean ====
section
/-! DEFINITION. Jumps, calls, returns and restarts (46_control.md R450 to R461). -/

namespace Sys2Proof.Machine

/-- `if cc holds: nextPC <- a16; cycles <- 4`, else 3 cycles (R452). -/
def jumpIf (cc : Cond) (target : Word) (s : State) : State :=
  if condHolds cc s then jumpTo target 4 s else advance 3 3 s

/-- `if cc holds: nextPC <- PC + 2 + e8; cycles <- 3`, else 2 cycles (R455). -/
def jumpRelIf (cc : Cond) (e : Byte) (s : State) : State :=
  if condHolds cc s then jumpTo (relTarget e s) 3 s else advance 2 2 s

/-- `Push16(clip_16(PC + len)); nextPC <- target` (R456, R461). -/
def callTo (target len : Word) (cycles : Nat) (s : State) : State :=
  if pushFaults s then raiseFault addressFault s else jumpTo target cycles (push16 (s.pc + len) s)

/-- `if cc holds: Push16(clip_16(PC + 3)); nextPC <- a16; cycles <- 6`, else 3 cycles (R457). -/
def callIf (cc : Cond) (target : Word) (s : State) : State :=
  if condHolds cc s then callTo target 3 6 s else advance 3 3 s

/-- `if cc holds: nextPC <- Pop16(); cycles <- 5`, else 2 cycles (R459). -/
def returnIf (cc : Cond) (s : State) : State :=
  if condHolds cc s then returnTo 5 s else advance 1 2 s

/-! ## One meaning per row -/

/-- `JR e8` (R454). -/
def execJrE8 (e : Byte) (s : State) : Result := .next (jumpTo (relTarget e s) 3 s)

/-- `JR NZ,e8` (R455). -/
def execJrNzE8 (e : Byte) (s : State) : Result := .next (jumpRelIf .nz e s)

/-- `JR Z,e8` (R455). -/
def execJrZE8 (e : Byte) (s : State) : Result := .next (jumpRelIf .z e s)

/-- `JR NC,e8` (R455). -/
def execJrNcE8 (e : Byte) (s : State) : Result := .next (jumpRelIf .nc e s)

/-- `JR C,e8` (R455). -/
def execJrCE8 (e : Byte) (s : State) : Result := .next (jumpRelIf .c e s)

/-- `RET NZ` (R459). -/
def execRetNz (s : State) : Result := .next (returnIf .nz s)

/-- `JP NZ,a16` (R452). -/
def execJpNzA16 (n : Word) (s : State) : Result := .next (jumpIf .nz n s)

/-- `JP a16` (R451). -/
def execJpA16 (n : Word) (s : State) : Result := .next (jumpTo n 4 s)

/-- `CALL NZ,a16` (R457). -/
def execCallNzA16 (n : Word) (s : State) : Result := .next (callIf .nz n s)

/-- `RST 0x00` (R461). -/
def execRst00 (s : State) : Result := .next (callTo 0x0000 1 4 s)

/-- `RET Z` (R459). -/
def execRetZ (s : State) : Result := .next (returnIf .z s)

/-- `RET` (R458). -/
def execRet (s : State) : Result := .next (returnTo 4 s)

/-- `JP Z,a16` (R452). -/
def execJpZA16 (n : Word) (s : State) : Result := .next (jumpIf .z n s)

/-- `CALL Z,a16` (R457). -/
def execCallZA16 (n : Word) (s : State) : Result := .next (callIf .z n s)

/-- `CALL a16` (R456). -/
def execCallA16 (n : Word) (s : State) : Result := .next (callTo n 3 6 s)

/-- `RST 0x08` (R461). -/
def execRst08 (s : State) : Result := .next (callTo 0x0008 1 4 s)

/-- `RET NC` (R459). -/
def execRetNc (s : State) : Result := .next (returnIf .nc s)

/-- `JP NC,a16` (R452). -/
def execJpNcA16 (n : Word) (s : State) : Result := .next (jumpIf .nc n s)

/-- `CALL NC,a16` (R457). -/
def execCallNcA16 (n : Word) (s : State) : Result := .next (callIf .nc n s)

/-- `RST 0x10` (R461). -/
def execRst10 (s : State) : Result := .next (callTo 0x0010 1 4 s)

/-- `RET C` (R459). -/
def execRetC (s : State) : Result := .next (returnIf .c s)

/-- `RETI` (R460). -/
def execReti (s : State) : Result := .next (returnFromInterrupt 4 s)

/-- `JP C,a16` (R452). -/
def execJpCA16 (n : Word) (s : State) : Result := .next (jumpIf .c n s)

/-- `CALL C,a16` (R457). -/
def execCallCA16 (n : Word) (s : State) : Result := .next (callIf .c n s)

/-- `RST 0x18` (R461). -/
def execRst18 (s : State) : Result := .next (callTo 0x0018 1 4 s)

/-- `RST 0x20` (R461). -/
def execRst20 (s : State) : Result := .next (callTo 0x0020 1 4 s)

/-- `JP HL` (R453). -/
def execJpHl (s : State) : Result := .next (jumpTo s.hl 1 s)

/-- `RST 0x28` (R461). -/
def execRst28 (s : State) : Result := .next (callTo 0x0028 1 4 s)

/-- `RST 0x30` (R461). -/
def execRst30 (s : State) : Result := .next (callTo 0x0030 1 4 s)

/-- `RST 0x38` (R461). -/
def execRst38 (s : State) : Result := .next (callTo 0x0038 1 4 s)

end Sys2Proof.Machine
end

