-- ==== Sys2Proof/Machine/Load16.lean ====
section
/-! DEFINITION. The 16-bit loads, push and pop (42_load16_stack.md R302 to R307). -/

namespace Sys2Proof.Machine

/-- `r16[p] <- n16` (R302). -/
def loadPairImm (p : Pair) (n : Word) (s : State) : State := advance 3 3 (s.setPair p n)

/-- `MemWrite(a16, 2, SP)`; faults before the first byte for `a16 = 0xFFFF` (R303, R107). -/
def storeSp (addr : Word) (s : State) : State :=
  if secondByteOut addr then raiseFault addressFault s else advance 3 5 (memWrite16 addr s.sp s)

/-- `SP <- HL` (R304). -/
def loadSpFromHl (s : State) : State := advance 1 2 (s.setPair .sp s.hl)

/-- `w <- add16L(SP, sext_16(e8)); HL <- value(w)` (R305). -/
def loadHlFromSp (e : Byte) (s : State) : State :=
  let w := add16L s.sp (sext16 e)
  advance 2 3 (setFlags polAddSp w (s.setHl w.value))

/-- `Push16(r16stk[p])` (R306). -/
def pushPair (q : StackPair) (s : State) : State :=
  if pushFaults s then raiseFault addressFault s else advance 1 4 (push16 (s.stackPair q) s)

/-- `r16stk[p] <- Pop16()`; AF through the F rule (R307). -/
def popPair (q : StackPair) (s : State) : State :=
  if popFaults s then raiseFault addressFault s else advance 1 3 ((popSp s).setStackPair q (popValue s))

/-! ## One meaning per row -/

/-- `LD BC,n16` (R302). -/
def execLdBcN16 (n : Word) (s : State) : Result := .next (loadPairImm .bc n s)

/-- `LD (a16),SP` (R303). -/
def execLdAtA16Sp (n : Word) (s : State) : Result := .next (storeSp n s)

/-- `LD DE,n16` (R302). -/
def execLdDeN16 (n : Word) (s : State) : Result := .next (loadPairImm .de n s)

/-- `LD HL,n16` (R302). -/
def execLdHlN16 (n : Word) (s : State) : Result := .next (loadPairImm .hl n s)

/-- `LD SP,n16` (R302). -/
def execLdSpN16 (n : Word) (s : State) : Result := .next (loadPairImm .sp n s)

/-- `POP BC` (R307). -/
def execPopBc (s : State) : Result := .next (popPair .bc s)

/-- `PUSH BC` (R306). -/
def execPushBc (s : State) : Result := .next (pushPair .bc s)

/-- `POP DE` (R307). -/
def execPopDe (s : State) : Result := .next (popPair .de s)

/-- `PUSH DE` (R306). -/
def execPushDe (s : State) : Result := .next (pushPair .de s)

/-- `POP HL` (R307). -/
def execPopHl (s : State) : Result := .next (popPair .hl s)

/-- `PUSH HL` (R306). -/
def execPushHl (s : State) : Result := .next (pushPair .hl s)

/-- `POP AF` (R307). -/
def execPopAf (s : State) : Result := .next (popPair .af s)

/-- `PUSH AF` (R306). -/
def execPushAf (s : State) : Result := .next (pushPair .af s)

/-- `LD HL,SP+e8` (R305). -/
def execLdHlSpE8 (e : Byte) (s : State) : Result := .next (loadHlFromSp e s)

/-- `LD SP,HL` (R304). -/
def execLdSpHl (s : State) : Result := .next (loadSpFromHl s)

end Sys2Proof.Machine
end

