-- ==== Sys2Proof/Machine/Load8.lean ====
section
/-! DEFINITION. The 8-bit loads and stores (41_load8.md R250 to R268): the operand forms once, then one
meaning per row of the opcode table. None of them changes F (R271). -/

namespace Sys2Proof.Machine

/-- `r8[y] <- r8[z]` (R250). -/
def moveReg (dst src : Reg8) (s : State) : State := advance 1 1 (s.setReg8 dst (s.reg8 src))

/-- `r8[y] <- n8` (R251). -/
def loadImm (r : Reg8) (n : Byte) (s : State) : State := advance 2 2 (s.setReg8 r n)

/-- `r8[y] <- BusRead(HL)` (R252). -/
def loadFromHl (r : Reg8) (s : State) : State := advance 1 2 (s.setReg8 r (readHl s))

/-- `BusWrite(HL, r8[z])` (R253). -/
def storeAtHl (r : Reg8) (s : State) : State := advance 1 2 (writeHl (s.reg8 r) s)

/-- `BusWrite(HL, n8)` (R254). -/
def storeImmAtHl (n : Byte) (s : State) : State := advance 2 3 (writeHl n s)

/-- `A <- BusRead(addr)`, in an instruction of `len` bytes and `cycles` cycles (R255 to R263). -/
def loadAFrom (addr len : Word) (cycles : Nat) (s : State) : State :=
  advance len cycles (s.setReg8 .a (busRead s addr))

/-- `BusWrite(addr, A)` (R257 to R264). -/
def storeATo (addr len : Word) (cycles : Nat) (s : State) : State :=
  advance len cycles (busWrite addr s.regs.a s)

/-- `A <- BusRead(HL)`, then HL moved by `next` (R265, R266). -/
def loadAThen (next : State → State) (s : State) : State := advance 1 2 (next (s.setReg8 .a (readHl s)))

/-- `BusWrite(HL, A)`, then HL moved by `next` (R267, R268). -/
def storeAThen (next : State → State) (s : State) : State := advance 1 2 (next (writeHl s.regs.a s))

/-! ## One meaning per row -/

/-- `LD (BC),A` (R257). -/
def execLdAtBcA (s : State) : Result := .next (storeATo s.bc 1 2 s)

/-- `LD B,n8` (R251). -/
def execLdBN8 (n : Byte) (s : State) : Result := .next (loadImm .b n s)

/-- `LD A,(BC)` (R255). -/
def execLdAAtBc (s : State) : Result := .next (loadAFrom s.bc 1 2 s)

/-- `LD C,n8` (R251). -/
def execLdCN8 (n : Byte) (s : State) : Result := .next (loadImm .c n s)

/-- `LD (DE),A` (R258). -/
def execLdAtDeA (s : State) : Result := .next (storeATo s.de 1 2 s)

/-- `LD D,n8` (R251). -/
def execLdDN8 (n : Byte) (s : State) : Result := .next (loadImm .d n s)

/-- `LD A,(DE)` (R256). -/
def execLdAAtDe (s : State) : Result := .next (loadAFrom s.de 1 2 s)

/-- `LD E,n8` (R251). -/
def execLdEN8 (n : Byte) (s : State) : Result := .next (loadImm .e n s)

/-- `LD (HL+),A` (R267). -/
def execLdAtHlIncA (s : State) : Result := .next (storeAThen incHlPtr s)

/-- `LD H,n8` (R251). -/
def execLdHN8 (n : Byte) (s : State) : Result := .next (loadImm .h n s)

/-- `LD A,(HL+)` (R265). -/
def execLdAAtHlInc (s : State) : Result := .next (loadAThen incHlPtr s)

/-- `LD L,n8` (R251). -/
def execLdLN8 (n : Byte) (s : State) : Result := .next (loadImm .l n s)

/-- `LD (HL-),A` (R268). -/
def execLdAtHlDecA (s : State) : Result := .next (storeAThen decHlPtr s)

/-- `LD (HL),n8` (R254). -/
def execLdAtHlN8 (n : Byte) (s : State) : Result := .next (storeImmAtHl n s)

/-- `LD A,(HL-)` (R266). -/
def execLdAAtHlDec (s : State) : Result := .next (loadAThen decHlPtr s)

/-- `LD A,n8` (R251). -/
def execLdAN8 (n : Byte) (s : State) : Result := .next (loadImm .a n s)

/-- `LD B,B` (R250). -/
def execLdBB (s : State) : Result := .next (moveReg .b .b s)

/-- `LD B,C` (R250). -/
def execLdBC (s : State) : Result := .next (moveReg .b .c s)

/-- `LD B,D` (R250). -/
def execLdBD (s : State) : Result := .next (moveReg .b .d s)

/-- `LD B,E` (R250). -/
def execLdBE (s : State) : Result := .next (moveReg .b .e s)

/-- `LD B,H` (R250). -/
def execLdBH (s : State) : Result := .next (moveReg .b .h s)

/-- `LD B,L` (R250). -/
def execLdBL (s : State) : Result := .next (moveReg .b .l s)

/-- `LD B,(HL)` (R252). -/
def execLdBAtHl (s : State) : Result := .next (loadFromHl .b s)

/-- `LD B,A` (R250). -/
def execLdBA (s : State) : Result := .next (moveReg .b .a s)

/-- `LD C,B` (R250). -/
def execLdCB (s : State) : Result := .next (moveReg .c .b s)

/-- `LD C,C` (R250). -/
def execLdCC (s : State) : Result := .next (moveReg .c .c s)

/-- `LD C,D` (R250). -/
def execLdCD (s : State) : Result := .next (moveReg .c .d s)

/-- `LD C,E` (R250). -/
def execLdCE (s : State) : Result := .next (moveReg .c .e s)

/-- `LD C,H` (R250). -/
def execLdCH (s : State) : Result := .next (moveReg .c .h s)

/-- `LD C,L` (R250). -/
def execLdCL (s : State) : Result := .next (moveReg .c .l s)

/-- `LD C,(HL)` (R252). -/
def execLdCAtHl (s : State) : Result := .next (loadFromHl .c s)

/-- `LD C,A` (R250). -/
def execLdCA (s : State) : Result := .next (moveReg .c .a s)

/-- `LD D,B` (R250). -/
def execLdDB (s : State) : Result := .next (moveReg .d .b s)

/-- `LD D,C` (R250). -/
def execLdDC (s : State) : Result := .next (moveReg .d .c s)

/-- `LD D,D` (R250). -/
def execLdDD (s : State) : Result := .next (moveReg .d .d s)

/-- `LD D,E` (R250). -/
def execLdDE (s : State) : Result := .next (moveReg .d .e s)

/-- `LD D,H` (R250). -/
def execLdDH (s : State) : Result := .next (moveReg .d .h s)

/-- `LD D,L` (R250). -/
def execLdDL (s : State) : Result := .next (moveReg .d .l s)

/-- `LD D,(HL)` (R252). -/
def execLdDAtHl (s : State) : Result := .next (loadFromHl .d s)

/-- `LD D,A` (R250). -/
def execLdDA (s : State) : Result := .next (moveReg .d .a s)

/-- `LD E,B` (R250). -/
def execLdEB (s : State) : Result := .next (moveReg .e .b s)

/-- `LD E,C` (R250). -/
def execLdEC (s : State) : Result := .next (moveReg .e .c s)

/-- `LD E,D` (R250). -/
def execLdED (s : State) : Result := .next (moveReg .e .d s)

/-- `LD E,E` (R250). -/
def execLdEE (s : State) : Result := .next (moveReg .e .e s)

/-- `LD E,H` (R250). -/
def execLdEH (s : State) : Result := .next (moveReg .e .h s)

/-- `LD E,L` (R250). -/
def execLdEL (s : State) : Result := .next (moveReg .e .l s)

/-- `LD E,(HL)` (R252). -/
def execLdEAtHl (s : State) : Result := .next (loadFromHl .e s)

/-- `LD E,A` (R250). -/
def execLdEA (s : State) : Result := .next (moveReg .e .a s)

/-- `LD H,B` (R250). -/
def execLdHB (s : State) : Result := .next (moveReg .h .b s)

/-- `LD H,C` (R250). -/
def execLdHC (s : State) : Result := .next (moveReg .h .c s)

/-- `LD H,D` (R250). -/
def execLdHD (s : State) : Result := .next (moveReg .h .d s)

/-- `LD H,E` (R250). -/
def execLdHE (s : State) : Result := .next (moveReg .h .e s)

/-- `LD H,H` (R250). -/
def execLdHH (s : State) : Result := .next (moveReg .h .h s)

/-- `LD H,L` (R250). -/
def execLdHL (s : State) : Result := .next (moveReg .h .l s)

/-- `LD H,(HL)` (R252). -/
def execLdHAtHl (s : State) : Result := .next (loadFromHl .h s)

/-- `LD H,A` (R250). -/
def execLdHA (s : State) : Result := .next (moveReg .h .a s)

/-- `LD L,B` (R250). -/
def execLdLB (s : State) : Result := .next (moveReg .l .b s)

/-- `LD L,C` (R250). -/
def execLdLC (s : State) : Result := .next (moveReg .l .c s)

/-- `LD L,D` (R250). -/
def execLdLD (s : State) : Result := .next (moveReg .l .d s)

/-- `LD L,E` (R250). -/
def execLdLE (s : State) : Result := .next (moveReg .l .e s)

/-- `LD L,H` (R250). -/
def execLdLH (s : State) : Result := .next (moveReg .l .h s)

/-- `LD L,L` (R250). -/
def execLdLL (s : State) : Result := .next (moveReg .l .l s)

/-- `LD L,(HL)` (R252). -/
def execLdLAtHl (s : State) : Result := .next (loadFromHl .l s)

/-- `LD L,A` (R250). -/
def execLdLA (s : State) : Result := .next (moveReg .l .a s)

/-- `LD (HL),B` (R253). -/
def execLdAtHlB (s : State) : Result := .next (storeAtHl .b s)

/-- `LD (HL),C` (R253). -/
def execLdAtHlC (s : State) : Result := .next (storeAtHl .c s)

/-- `LD (HL),D` (R253). -/
def execLdAtHlD (s : State) : Result := .next (storeAtHl .d s)

/-- `LD (HL),E` (R253). -/
def execLdAtHlE (s : State) : Result := .next (storeAtHl .e s)

/-- `LD (HL),H` (R253). -/
def execLdAtHlH (s : State) : Result := .next (storeAtHl .h s)

/-- `LD (HL),L` (R253). -/
def execLdAtHlL (s : State) : Result := .next (storeAtHl .l s)

/-- `LD (HL),A` (R253). -/
def execLdAtHlA (s : State) : Result := .next (storeAtHl .a s)

/-- `LD A,B` (R250). -/
def execLdAB (s : State) : Result := .next (moveReg .a .b s)

/-- `LD A,C` (R250). -/
def execLdAC (s : State) : Result := .next (moveReg .a .c s)

/-- `LD A,D` (R250). -/
def execLdAD (s : State) : Result := .next (moveReg .a .d s)

/-- `LD A,E` (R250). -/
def execLdAE (s : State) : Result := .next (moveReg .a .e s)

/-- `LD A,H` (R250). -/
def execLdAH (s : State) : Result := .next (moveReg .a .h s)

/-- `LD A,L` (R250). -/
def execLdAL (s : State) : Result := .next (moveReg .a .l s)

/-- `LD A,(HL)` (R252). -/
def execLdAAtHl (s : State) : Result := .next (loadFromHl .a s)

/-- `LD A,A` (R250). -/
def execLdAA (s : State) : Result := .next (moveReg .a .a s)

/-- `LDH (a8),A` (R264). -/
def execLdhAtA8A (a : Byte) (s : State) : Result := .next (storeATo (pageFF a) 2 3 s)

/-- `LDH (C),A` (R262). -/
def execLdhAtCA (s : State) : Result := .next (storeATo (pageFF s.regs.c) 1 2 s)

/-- `LD (a16),A` (R260). -/
def execLdAtA16A (n : Word) (s : State) : Result := .next (storeATo n 3 4 s)

/-- `LDH A,(a8)` (R263). -/
def execLdhAAtA8 (a : Byte) (s : State) : Result := .next (loadAFrom (pageFF a) 2 3 s)

/-- `LDH A,(C)` (R261). -/
def execLdhAAtC (s : State) : Result := .next (loadAFrom (pageFF s.regs.c) 1 2 s)

/-- `LD A,(a16)` (R259). -/
def execLdAAtA16 (n : Word) (s : State) : Result := .next (loadAFrom n 3 4 s)

end Sys2Proof.Machine
end

