-- ==== Sys2Proof/Machine/Rotate.lean ====
section
/-! DEFINITION. Rotates, shifts, swap and bit instructions (45_rotate_shift_bit.md R400 to R426). The cost
of a prefixed form includes its prefix byte (R426). -/

namespace Sys2Proof.Machine

/-- The unit's function of `rot[y]`, on the operand and the old Cy (R404 to R419). -/
def rotUnit (op : RotOp) (v : Byte) (cy : Bool) : Packed 8 :=
  match op with
  | .rlc => rotateLeft v
  | .rrc => rotateRight v
  | .rl => rotateLeftC v cy
  | .rr => rotateRightC v cy
  | .sla => shiftLeft v
  | .sra => shiftRightA v
  | .swap => swap8 v
  | .srl => shiftRightL v

/-- The flag policy of `rot[y]` (R230). -/
def rotPolicy (op : RotOp) : FlagPolicy :=
  match op with
  | .swap => polSwap
  | _ => polRot

/-- The four rotates of A in the unprefixed table: Z forced to 0 (R400 to R403). -/
def rotateA (op : RotOp) (s : State) : State :=
  let w := rotUnit op s.regs.a (flagC s.regs.f)
  advance 1 1 (setFlags polRotA w (s.setReg8 .a w.value))

/-- Prefixed register form (R404 to R418). -/
def rotateReg (op : RotOp) (r : Reg8) (s : State) : State :=
  let w := rotUnit op (s.reg8 r) (flagC s.regs.f)
  advance 2 2 (setFlags (rotPolicy op) w (s.setReg8 r w.value))

/-- Prefixed memory form (R405 to R419). -/
def rotateAtHl (op : RotOp) (s : State) : State :=
  let w := rotUnit op (readHl s) (flagC s.regs.f)
  advance 2 4 (setFlags (rotPolicy op) w (writeHl w.value s))

/-- `w <- testBit(r8[z], b)`; no register is written (R420). -/
def testReg (b : Fin 8) (r : Reg8) (s : State) : State :=
  advance 2 2 (setFlags polBit (testBit8 (s.reg8 r) b) s)

/-- `w <- testBit(BusRead(HL), b)`; no write-back (R421). -/
def testAtHl (b : Fin 8) (s : State) : State := advance 2 3 (setFlags polBit (testBit8 (readHl s) b) s)

/-- `r8[z] <- r8[z] and complement8(2^b)` (R422). -/
def resetReg (b : Fin 8) (r : Reg8) (s : State) : State :=
  advance 2 2 (s.setReg8 r (s.reg8 r &&& complement8 (bitMask b)))

/-- `BusWrite(HL, BusRead(HL) and complement8(2^b))` (R423). -/
def resetAtHl (b : Fin 8) (s : State) : State :=
  advance 2 4 (writeHl (readHl s &&& complement8 (bitMask b)) s)

/-- `r8[z] <- r8[z] or 2^b` (R424). -/
def setReg (b : Fin 8) (r : Reg8) (s : State) : State :=
  advance 2 2 (s.setReg8 r (s.reg8 r ||| bitMask b))

/-- `BusWrite(HL, BusRead(HL) or 2^b)` (R425). -/
def setAtHl (b : Fin 8) (s : State) : State := advance 2 4 (writeHl (readHl s ||| bitMask b) s)

/-! ## One meaning per row -/

/-- `RLCA` (R400). -/
def execRlca (s : State) : Result := .next (rotateA .rlc s)

/-- `RRCA` (R401). -/
def execRrca (s : State) : Result := .next (rotateA .rrc s)

/-- `RLA` (R402). -/
def execRla (s : State) : Result := .next (rotateA .rl s)

/-- `RRA` (R403). -/
def execRra (s : State) : Result := .next (rotateA .rr s)

/-- `RLC B` (R404). -/
def execRlcB (s : State) : Result := .next (rotateReg .rlc .b s)

/-- `RLC C` (R404). -/
def execRlcC (s : State) : Result := .next (rotateReg .rlc .c s)

/-- `RLC D` (R404). -/
def execRlcD (s : State) : Result := .next (rotateReg .rlc .d s)

/-- `RLC E` (R404). -/
def execRlcE (s : State) : Result := .next (rotateReg .rlc .e s)

/-- `RLC H` (R404). -/
def execRlcH (s : State) : Result := .next (rotateReg .rlc .h s)

/-- `RLC L` (R404). -/
def execRlcL (s : State) : Result := .next (rotateReg .rlc .l s)

/-- `RLC (HL)` (R405). -/
def execRlcAtHl (s : State) : Result := .next (rotateAtHl .rlc s)

/-- `RLC A` (R404). -/
def execRlcA (s : State) : Result := .next (rotateReg .rlc .a s)

/-- `RRC B` (R406). -/
def execRrcB (s : State) : Result := .next (rotateReg .rrc .b s)

/-- `RRC C` (R406). -/
def execRrcC (s : State) : Result := .next (rotateReg .rrc .c s)

/-- `RRC D` (R406). -/
def execRrcD (s : State) : Result := .next (rotateReg .rrc .d s)

/-- `RRC E` (R406). -/
def execRrcE (s : State) : Result := .next (rotateReg .rrc .e s)

/-- `RRC H` (R406). -/
def execRrcH (s : State) : Result := .next (rotateReg .rrc .h s)

/-- `RRC L` (R406). -/
def execRrcL (s : State) : Result := .next (rotateReg .rrc .l s)

/-- `RRC (HL)` (R407). -/
def execRrcAtHl (s : State) : Result := .next (rotateAtHl .rrc s)

/-- `RRC A` (R406). -/
def execRrcA (s : State) : Result := .next (rotateReg .rrc .a s)

/-- `RL B` (R408). -/
def execRlB (s : State) : Result := .next (rotateReg .rl .b s)

/-- `RL C` (R408). -/
def execRlC (s : State) : Result := .next (rotateReg .rl .c s)

/-- `RL D` (R408). -/
def execRlD (s : State) : Result := .next (rotateReg .rl .d s)

/-- `RL E` (R408). -/
def execRlE (s : State) : Result := .next (rotateReg .rl .e s)

/-- `RL H` (R408). -/
def execRlH (s : State) : Result := .next (rotateReg .rl .h s)

/-- `RL L` (R408). -/
def execRlL (s : State) : Result := .next (rotateReg .rl .l s)

/-- `RL (HL)` (R409). -/
def execRlAtHl (s : State) : Result := .next (rotateAtHl .rl s)

/-- `RL A` (R408). -/
def execRlA (s : State) : Result := .next (rotateReg .rl .a s)

/-- `RR B` (R410). -/
def execRrB (s : State) : Result := .next (rotateReg .rr .b s)

/-- `RR C` (R410). -/
def execRrC (s : State) : Result := .next (rotateReg .rr .c s)

/-- `RR D` (R410). -/
def execRrD (s : State) : Result := .next (rotateReg .rr .d s)

/-- `RR E` (R410). -/
def execRrE (s : State) : Result := .next (rotateReg .rr .e s)

/-- `RR H` (R410). -/
def execRrH (s : State) : Result := .next (rotateReg .rr .h s)

/-- `RR L` (R410). -/
def execRrL (s : State) : Result := .next (rotateReg .rr .l s)

/-- `RR (HL)` (R411). -/
def execRrAtHl (s : State) : Result := .next (rotateAtHl .rr s)

/-- `RR A` (R410). -/
def execRrA (s : State) : Result := .next (rotateReg .rr .a s)

/-- `SLA B` (R412). -/
def execSlaB (s : State) : Result := .next (rotateReg .sla .b s)

/-- `SLA C` (R412). -/
def execSlaC (s : State) : Result := .next (rotateReg .sla .c s)

/-- `SLA D` (R412). -/
def execSlaD (s : State) : Result := .next (rotateReg .sla .d s)

/-- `SLA E` (R412). -/
def execSlaE (s : State) : Result := .next (rotateReg .sla .e s)

/-- `SLA H` (R412). -/
def execSlaH (s : State) : Result := .next (rotateReg .sla .h s)

/-- `SLA L` (R412). -/
def execSlaL (s : State) : Result := .next (rotateReg .sla .l s)

/-- `SLA (HL)` (R413). -/
def execSlaAtHl (s : State) : Result := .next (rotateAtHl .sla s)

/-- `SLA A` (R412). -/
def execSlaA (s : State) : Result := .next (rotateReg .sla .a s)

/-- `SRA B` (R414). -/
def execSraB (s : State) : Result := .next (rotateReg .sra .b s)

/-- `SRA C` (R414). -/
def execSraC (s : State) : Result := .next (rotateReg .sra .c s)

/-- `SRA D` (R414). -/
def execSraD (s : State) : Result := .next (rotateReg .sra .d s)

/-- `SRA E` (R414). -/
def execSraE (s : State) : Result := .next (rotateReg .sra .e s)

/-- `SRA H` (R414). -/
def execSraH (s : State) : Result := .next (rotateReg .sra .h s)

/-- `SRA L` (R414). -/
def execSraL (s : State) : Result := .next (rotateReg .sra .l s)

/-- `SRA (HL)` (R415). -/
def execSraAtHl (s : State) : Result := .next (rotateAtHl .sra s)

/-- `SRA A` (R414). -/
def execSraA (s : State) : Result := .next (rotateReg .sra .a s)

/-- `SWAP B` (R416). -/
def execSwapB (s : State) : Result := .next (rotateReg .swap .b s)

/-- `SWAP C` (R416). -/
def execSwapC (s : State) : Result := .next (rotateReg .swap .c s)

/-- `SWAP D` (R416). -/
def execSwapD (s : State) : Result := .next (rotateReg .swap .d s)

/-- `SWAP E` (R416). -/
def execSwapE (s : State) : Result := .next (rotateReg .swap .e s)

/-- `SWAP H` (R416). -/
def execSwapH (s : State) : Result := .next (rotateReg .swap .h s)

/-- `SWAP L` (R416). -/
def execSwapL (s : State) : Result := .next (rotateReg .swap .l s)

/-- `SWAP (HL)` (R417). -/
def execSwapAtHl (s : State) : Result := .next (rotateAtHl .swap s)

/-- `SWAP A` (R416). -/
def execSwapA (s : State) : Result := .next (rotateReg .swap .a s)

/-- `SRL B` (R418). -/
def execSrlB (s : State) : Result := .next (rotateReg .srl .b s)

/-- `SRL C` (R418). -/
def execSrlC (s : State) : Result := .next (rotateReg .srl .c s)

/-- `SRL D` (R418). -/
def execSrlD (s : State) : Result := .next (rotateReg .srl .d s)

/-- `SRL E` (R418). -/
def execSrlE (s : State) : Result := .next (rotateReg .srl .e s)

/-- `SRL H` (R418). -/
def execSrlH (s : State) : Result := .next (rotateReg .srl .h s)

/-- `SRL L` (R418). -/
def execSrlL (s : State) : Result := .next (rotateReg .srl .l s)

/-- `SRL (HL)` (R419). -/
def execSrlAtHl (s : State) : Result := .next (rotateAtHl .srl s)

/-- `SRL A` (R418). -/
def execSrlA (s : State) : Result := .next (rotateReg .srl .a s)

/-- `BIT 0,B` (R420). -/
def execBit0B (s : State) : Result := .next (testReg 0 .b s)

/-- `BIT 0,C` (R420). -/
def execBit0C (s : State) : Result := .next (testReg 0 .c s)

/-- `BIT 0,D` (R420). -/
def execBit0D (s : State) : Result := .next (testReg 0 .d s)

/-- `BIT 0,E` (R420). -/
def execBit0E (s : State) : Result := .next (testReg 0 .e s)

/-- `BIT 0,H` (R420). -/
def execBit0H (s : State) : Result := .next (testReg 0 .h s)

/-- `BIT 0,L` (R420). -/
def execBit0L (s : State) : Result := .next (testReg 0 .l s)

/-- `BIT 0,(HL)` (R421). -/
def execBit0AtHl (s : State) : Result := .next (testAtHl 0 s)

/-- `BIT 0,A` (R420). -/
def execBit0A (s : State) : Result := .next (testReg 0 .a s)

/-- `BIT 1,B` (R420). -/
def execBit1B (s : State) : Result := .next (testReg 1 .b s)

/-- `BIT 1,C` (R420). -/
def execBit1C (s : State) : Result := .next (testReg 1 .c s)

/-- `BIT 1,D` (R420). -/
def execBit1D (s : State) : Result := .next (testReg 1 .d s)

/-- `BIT 1,E` (R420). -/
def execBit1E (s : State) : Result := .next (testReg 1 .e s)

/-- `BIT 1,H` (R420). -/
def execBit1H (s : State) : Result := .next (testReg 1 .h s)

/-- `BIT 1,L` (R420). -/
def execBit1L (s : State) : Result := .next (testReg 1 .l s)

/-- `BIT 1,(HL)` (R421). -/
def execBit1AtHl (s : State) : Result := .next (testAtHl 1 s)

/-- `BIT 1,A` (R420). -/
def execBit1A (s : State) : Result := .next (testReg 1 .a s)

/-- `BIT 2,B` (R420). -/
def execBit2B (s : State) : Result := .next (testReg 2 .b s)

/-- `BIT 2,C` (R420). -/
def execBit2C (s : State) : Result := .next (testReg 2 .c s)

/-- `BIT 2,D` (R420). -/
def execBit2D (s : State) : Result := .next (testReg 2 .d s)

/-- `BIT 2,E` (R420). -/
def execBit2E (s : State) : Result := .next (testReg 2 .e s)

/-- `BIT 2,H` (R420). -/
def execBit2H (s : State) : Result := .next (testReg 2 .h s)

/-- `BIT 2,L` (R420). -/
def execBit2L (s : State) : Result := .next (testReg 2 .l s)

/-- `BIT 2,(HL)` (R421). -/
def execBit2AtHl (s : State) : Result := .next (testAtHl 2 s)

/-- `BIT 2,A` (R420). -/
def execBit2A (s : State) : Result := .next (testReg 2 .a s)

/-- `BIT 3,B` (R420). -/
def execBit3B (s : State) : Result := .next (testReg 3 .b s)

/-- `BIT 3,C` (R420). -/
def execBit3C (s : State) : Result := .next (testReg 3 .c s)

/-- `BIT 3,D` (R420). -/
def execBit3D (s : State) : Result := .next (testReg 3 .d s)

/-- `BIT 3,E` (R420). -/
def execBit3E (s : State) : Result := .next (testReg 3 .e s)

/-- `BIT 3,H` (R420). -/
def execBit3H (s : State) : Result := .next (testReg 3 .h s)

/-- `BIT 3,L` (R420). -/
def execBit3L (s : State) : Result := .next (testReg 3 .l s)

/-- `BIT 3,(HL)` (R421). -/
def execBit3AtHl (s : State) : Result := .next (testAtHl 3 s)

/-- `BIT 3,A` (R420). -/
def execBit3A (s : State) : Result := .next (testReg 3 .a s)

/-- `BIT 4,B` (R420). -/
def execBit4B (s : State) : Result := .next (testReg 4 .b s)

/-- `BIT 4,C` (R420). -/
def execBit4C (s : State) : Result := .next (testReg 4 .c s)

/-- `BIT 4,D` (R420). -/
def execBit4D (s : State) : Result := .next (testReg 4 .d s)

/-- `BIT 4,E` (R420). -/
def execBit4E (s : State) : Result := .next (testReg 4 .e s)

/-- `BIT 4,H` (R420). -/
def execBit4H (s : State) : Result := .next (testReg 4 .h s)

/-- `BIT 4,L` (R420). -/
def execBit4L (s : State) : Result := .next (testReg 4 .l s)

/-- `BIT 4,(HL)` (R421). -/
def execBit4AtHl (s : State) : Result := .next (testAtHl 4 s)

/-- `BIT 4,A` (R420). -/
def execBit4A (s : State) : Result := .next (testReg 4 .a s)

/-- `BIT 5,B` (R420). -/
def execBit5B (s : State) : Result := .next (testReg 5 .b s)

/-- `BIT 5,C` (R420). -/
def execBit5C (s : State) : Result := .next (testReg 5 .c s)

/-- `BIT 5,D` (R420). -/
def execBit5D (s : State) : Result := .next (testReg 5 .d s)

/-- `BIT 5,E` (R420). -/
def execBit5E (s : State) : Result := .next (testReg 5 .e s)

/-- `BIT 5,H` (R420). -/
def execBit5H (s : State) : Result := .next (testReg 5 .h s)

/-- `BIT 5,L` (R420). -/
def execBit5L (s : State) : Result := .next (testReg 5 .l s)

/-- `BIT 5,(HL)` (R421). -/
def execBit5AtHl (s : State) : Result := .next (testAtHl 5 s)

/-- `BIT 5,A` (R420). -/
def execBit5A (s : State) : Result := .next (testReg 5 .a s)

/-- `BIT 6,B` (R420). -/
def execBit6B (s : State) : Result := .next (testReg 6 .b s)

/-- `BIT 6,C` (R420). -/
def execBit6C (s : State) : Result := .next (testReg 6 .c s)

/-- `BIT 6,D` (R420). -/
def execBit6D (s : State) : Result := .next (testReg 6 .d s)

/-- `BIT 6,E` (R420). -/
def execBit6E (s : State) : Result := .next (testReg 6 .e s)

/-- `BIT 6,H` (R420). -/
def execBit6H (s : State) : Result := .next (testReg 6 .h s)

/-- `BIT 6,L` (R420). -/
def execBit6L (s : State) : Result := .next (testReg 6 .l s)

/-- `BIT 6,(HL)` (R421). -/
def execBit6AtHl (s : State) : Result := .next (testAtHl 6 s)

/-- `BIT 6,A` (R420). -/
def execBit6A (s : State) : Result := .next (testReg 6 .a s)

/-- `BIT 7,B` (R420). -/
def execBit7B (s : State) : Result := .next (testReg 7 .b s)

/-- `BIT 7,C` (R420). -/
def execBit7C (s : State) : Result := .next (testReg 7 .c s)

/-- `BIT 7,D` (R420). -/
def execBit7D (s : State) : Result := .next (testReg 7 .d s)

/-- `BIT 7,E` (R420). -/
def execBit7E (s : State) : Result := .next (testReg 7 .e s)

/-- `BIT 7,H` (R420). -/
def execBit7H (s : State) : Result := .next (testReg 7 .h s)

/-- `BIT 7,L` (R420). -/
def execBit7L (s : State) : Result := .next (testReg 7 .l s)

/-- `BIT 7,(HL)` (R421). -/
def execBit7AtHl (s : State) : Result := .next (testAtHl 7 s)

/-- `BIT 7,A` (R420). -/
def execBit7A (s : State) : Result := .next (testReg 7 .a s)

/-- `RES 0,B` (R422). -/
def execRes0B (s : State) : Result := .next (resetReg 0 .b s)

/-- `RES 0,C` (R422). -/
def execRes0C (s : State) : Result := .next (resetReg 0 .c s)

/-- `RES 0,D` (R422). -/
def execRes0D (s : State) : Result := .next (resetReg 0 .d s)

/-- `RES 0,E` (R422). -/
def execRes0E (s : State) : Result := .next (resetReg 0 .e s)

/-- `RES 0,H` (R422). -/
def execRes0H (s : State) : Result := .next (resetReg 0 .h s)

/-- `RES 0,L` (R422). -/
def execRes0L (s : State) : Result := .next (resetReg 0 .l s)

/-- `RES 0,(HL)` (R423). -/
def execRes0AtHl (s : State) : Result := .next (resetAtHl 0 s)

/-- `RES 0,A` (R422). -/
def execRes0A (s : State) : Result := .next (resetReg 0 .a s)

/-- `RES 1,B` (R422). -/
def execRes1B (s : State) : Result := .next (resetReg 1 .b s)

/-- `RES 1,C` (R422). -/
def execRes1C (s : State) : Result := .next (resetReg 1 .c s)

/-- `RES 1,D` (R422). -/
def execRes1D (s : State) : Result := .next (resetReg 1 .d s)

/-- `RES 1,E` (R422). -/
def execRes1E (s : State) : Result := .next (resetReg 1 .e s)

/-- `RES 1,H` (R422). -/
def execRes1H (s : State) : Result := .next (resetReg 1 .h s)

/-- `RES 1,L` (R422). -/
def execRes1L (s : State) : Result := .next (resetReg 1 .l s)

/-- `RES 1,(HL)` (R423). -/
def execRes1AtHl (s : State) : Result := .next (resetAtHl 1 s)

/-- `RES 1,A` (R422). -/
def execRes1A (s : State) : Result := .next (resetReg 1 .a s)

/-- `RES 2,B` (R422). -/
def execRes2B (s : State) : Result := .next (resetReg 2 .b s)

/-- `RES 2,C` (R422). -/
def execRes2C (s : State) : Result := .next (resetReg 2 .c s)

/-- `RES 2,D` (R422). -/
def execRes2D (s : State) : Result := .next (resetReg 2 .d s)

/-- `RES 2,E` (R422). -/
def execRes2E (s : State) : Result := .next (resetReg 2 .e s)

/-- `RES 2,H` (R422). -/
def execRes2H (s : State) : Result := .next (resetReg 2 .h s)

/-- `RES 2,L` (R422). -/
def execRes2L (s : State) : Result := .next (resetReg 2 .l s)

/-- `RES 2,(HL)` (R423). -/
def execRes2AtHl (s : State) : Result := .next (resetAtHl 2 s)

/-- `RES 2,A` (R422). -/
def execRes2A (s : State) : Result := .next (resetReg 2 .a s)

/-- `RES 3,B` (R422). -/
def execRes3B (s : State) : Result := .next (resetReg 3 .b s)

/-- `RES 3,C` (R422). -/
def execRes3C (s : State) : Result := .next (resetReg 3 .c s)

/-- `RES 3,D` (R422). -/
def execRes3D (s : State) : Result := .next (resetReg 3 .d s)

/-- `RES 3,E` (R422). -/
def execRes3E (s : State) : Result := .next (resetReg 3 .e s)

/-- `RES 3,H` (R422). -/
def execRes3H (s : State) : Result := .next (resetReg 3 .h s)

/-- `RES 3,L` (R422). -/
def execRes3L (s : State) : Result := .next (resetReg 3 .l s)

/-- `RES 3,(HL)` (R423). -/
def execRes3AtHl (s : State) : Result := .next (resetAtHl 3 s)

/-- `RES 3,A` (R422). -/
def execRes3A (s : State) : Result := .next (resetReg 3 .a s)

/-- `RES 4,B` (R422). -/
def execRes4B (s : State) : Result := .next (resetReg 4 .b s)

/-- `RES 4,C` (R422). -/
def execRes4C (s : State) : Result := .next (resetReg 4 .c s)

/-- `RES 4,D` (R422). -/
def execRes4D (s : State) : Result := .next (resetReg 4 .d s)

/-- `RES 4,E` (R422). -/
def execRes4E (s : State) : Result := .next (resetReg 4 .e s)

/-- `RES 4,H` (R422). -/
def execRes4H (s : State) : Result := .next (resetReg 4 .h s)

/-- `RES 4,L` (R422). -/
def execRes4L (s : State) : Result := .next (resetReg 4 .l s)

/-- `RES 4,(HL)` (R423). -/
def execRes4AtHl (s : State) : Result := .next (resetAtHl 4 s)

/-- `RES 4,A` (R422). -/
def execRes4A (s : State) : Result := .next (resetReg 4 .a s)

/-- `RES 5,B` (R422). -/
def execRes5B (s : State) : Result := .next (resetReg 5 .b s)

/-- `RES 5,C` (R422). -/
def execRes5C (s : State) : Result := .next (resetReg 5 .c s)

/-- `RES 5,D` (R422). -/
def execRes5D (s : State) : Result := .next (resetReg 5 .d s)

/-- `RES 5,E` (R422). -/
def execRes5E (s : State) : Result := .next (resetReg 5 .e s)

/-- `RES 5,H` (R422). -/
def execRes5H (s : State) : Result := .next (resetReg 5 .h s)

/-- `RES 5,L` (R422). -/
def execRes5L (s : State) : Result := .next (resetReg 5 .l s)

/-- `RES 5,(HL)` (R423). -/
def execRes5AtHl (s : State) : Result := .next (resetAtHl 5 s)

/-- `RES 5,A` (R422). -/
def execRes5A (s : State) : Result := .next (resetReg 5 .a s)

/-- `RES 6,B` (R422). -/
def execRes6B (s : State) : Result := .next (resetReg 6 .b s)

/-- `RES 6,C` (R422). -/
def execRes6C (s : State) : Result := .next (resetReg 6 .c s)

/-- `RES 6,D` (R422). -/
def execRes6D (s : State) : Result := .next (resetReg 6 .d s)

/-- `RES 6,E` (R422). -/
def execRes6E (s : State) : Result := .next (resetReg 6 .e s)

/-- `RES 6,H` (R422). -/
def execRes6H (s : State) : Result := .next (resetReg 6 .h s)

/-- `RES 6,L` (R422). -/
def execRes6L (s : State) : Result := .next (resetReg 6 .l s)

/-- `RES 6,(HL)` (R423). -/
def execRes6AtHl (s : State) : Result := .next (resetAtHl 6 s)

/-- `RES 6,A` (R422). -/
def execRes6A (s : State) : Result := .next (resetReg 6 .a s)

/-- `RES 7,B` (R422). -/
def execRes7B (s : State) : Result := .next (resetReg 7 .b s)

/-- `RES 7,C` (R422). -/
def execRes7C (s : State) : Result := .next (resetReg 7 .c s)

/-- `RES 7,D` (R422). -/
def execRes7D (s : State) : Result := .next (resetReg 7 .d s)

/-- `RES 7,E` (R422). -/
def execRes7E (s : State) : Result := .next (resetReg 7 .e s)

/-- `RES 7,H` (R422). -/
def execRes7H (s : State) : Result := .next (resetReg 7 .h s)

/-- `RES 7,L` (R422). -/
def execRes7L (s : State) : Result := .next (resetReg 7 .l s)

/-- `RES 7,(HL)` (R423). -/
def execRes7AtHl (s : State) : Result := .next (resetAtHl 7 s)

/-- `RES 7,A` (R422). -/
def execRes7A (s : State) : Result := .next (resetReg 7 .a s)

/-- `SET 0,B` (R424). -/
def execSet0B (s : State) : Result := .next (setReg 0 .b s)

/-- `SET 0,C` (R424). -/
def execSet0C (s : State) : Result := .next (setReg 0 .c s)

/-- `SET 0,D` (R424). -/
def execSet0D (s : State) : Result := .next (setReg 0 .d s)

/-- `SET 0,E` (R424). -/
def execSet0E (s : State) : Result := .next (setReg 0 .e s)

/-- `SET 0,H` (R424). -/
def execSet0H (s : State) : Result := .next (setReg 0 .h s)

/-- `SET 0,L` (R424). -/
def execSet0L (s : State) : Result := .next (setReg 0 .l s)

/-- `SET 0,(HL)` (R425). -/
def execSet0AtHl (s : State) : Result := .next (setAtHl 0 s)

/-- `SET 0,A` (R424). -/
def execSet0A (s : State) : Result := .next (setReg 0 .a s)

/-- `SET 1,B` (R424). -/
def execSet1B (s : State) : Result := .next (setReg 1 .b s)

/-- `SET 1,C` (R424). -/
def execSet1C (s : State) : Result := .next (setReg 1 .c s)

/-- `SET 1,D` (R424). -/
def execSet1D (s : State) : Result := .next (setReg 1 .d s)

/-- `SET 1,E` (R424). -/
def execSet1E (s : State) : Result := .next (setReg 1 .e s)

/-- `SET 1,H` (R424). -/
def execSet1H (s : State) : Result := .next (setReg 1 .h s)

/-- `SET 1,L` (R424). -/
def execSet1L (s : State) : Result := .next (setReg 1 .l s)

/-- `SET 1,(HL)` (R425). -/
def execSet1AtHl (s : State) : Result := .next (setAtHl 1 s)

/-- `SET 1,A` (R424). -/
def execSet1A (s : State) : Result := .next (setReg 1 .a s)

/-- `SET 2,B` (R424). -/
def execSet2B (s : State) : Result := .next (setReg 2 .b s)

/-- `SET 2,C` (R424). -/
def execSet2C (s : State) : Result := .next (setReg 2 .c s)

/-- `SET 2,D` (R424). -/
def execSet2D (s : State) : Result := .next (setReg 2 .d s)

/-- `SET 2,E` (R424). -/
def execSet2E (s : State) : Result := .next (setReg 2 .e s)

/-- `SET 2,H` (R424). -/
def execSet2H (s : State) : Result := .next (setReg 2 .h s)

/-- `SET 2,L` (R424). -/
def execSet2L (s : State) : Result := .next (setReg 2 .l s)

/-- `SET 2,(HL)` (R425). -/
def execSet2AtHl (s : State) : Result := .next (setAtHl 2 s)

/-- `SET 2,A` (R424). -/
def execSet2A (s : State) : Result := .next (setReg 2 .a s)

/-- `SET 3,B` (R424). -/
def execSet3B (s : State) : Result := .next (setReg 3 .b s)

/-- `SET 3,C` (R424). -/
def execSet3C (s : State) : Result := .next (setReg 3 .c s)

/-- `SET 3,D` (R424). -/
def execSet3D (s : State) : Result := .next (setReg 3 .d s)

/-- `SET 3,E` (R424). -/
def execSet3E (s : State) : Result := .next (setReg 3 .e s)

/-- `SET 3,H` (R424). -/
def execSet3H (s : State) : Result := .next (setReg 3 .h s)

/-- `SET 3,L` (R424). -/
def execSet3L (s : State) : Result := .next (setReg 3 .l s)

/-- `SET 3,(HL)` (R425). -/
def execSet3AtHl (s : State) : Result := .next (setAtHl 3 s)

/-- `SET 3,A` (R424). -/
def execSet3A (s : State) : Result := .next (setReg 3 .a s)

/-- `SET 4,B` (R424). -/
def execSet4B (s : State) : Result := .next (setReg 4 .b s)

/-- `SET 4,C` (R424). -/
def execSet4C (s : State) : Result := .next (setReg 4 .c s)

/-- `SET 4,D` (R424). -/
def execSet4D (s : State) : Result := .next (setReg 4 .d s)

/-- `SET 4,E` (R424). -/
def execSet4E (s : State) : Result := .next (setReg 4 .e s)

/-- `SET 4,H` (R424). -/
def execSet4H (s : State) : Result := .next (setReg 4 .h s)

/-- `SET 4,L` (R424). -/
def execSet4L (s : State) : Result := .next (setReg 4 .l s)

/-- `SET 4,(HL)` (R425). -/
def execSet4AtHl (s : State) : Result := .next (setAtHl 4 s)

/-- `SET 4,A` (R424). -/
def execSet4A (s : State) : Result := .next (setReg 4 .a s)

/-- `SET 5,B` (R424). -/
def execSet5B (s : State) : Result := .next (setReg 5 .b s)

/-- `SET 5,C` (R424). -/
def execSet5C (s : State) : Result := .next (setReg 5 .c s)

/-- `SET 5,D` (R424). -/
def execSet5D (s : State) : Result := .next (setReg 5 .d s)

/-- `SET 5,E` (R424). -/
def execSet5E (s : State) : Result := .next (setReg 5 .e s)

/-- `SET 5,H` (R424). -/
def execSet5H (s : State) : Result := .next (setReg 5 .h s)

/-- `SET 5,L` (R424). -/
def execSet5L (s : State) : Result := .next (setReg 5 .l s)

/-- `SET 5,(HL)` (R425). -/
def execSet5AtHl (s : State) : Result := .next (setAtHl 5 s)

/-- `SET 5,A` (R424). -/
def execSet5A (s : State) : Result := .next (setReg 5 .a s)

/-- `SET 6,B` (R424). -/
def execSet6B (s : State) : Result := .next (setReg 6 .b s)

/-- `SET 6,C` (R424). -/
def execSet6C (s : State) : Result := .next (setReg 6 .c s)

/-- `SET 6,D` (R424). -/
def execSet6D (s : State) : Result := .next (setReg 6 .d s)

/-- `SET 6,E` (R424). -/
def execSet6E (s : State) : Result := .next (setReg 6 .e s)

/-- `SET 6,H` (R424). -/
def execSet6H (s : State) : Result := .next (setReg 6 .h s)

/-- `SET 6,L` (R424). -/
def execSet6L (s : State) : Result := .next (setReg 6 .l s)

/-- `SET 6,(HL)` (R425). -/
def execSet6AtHl (s : State) : Result := .next (setAtHl 6 s)

/-- `SET 6,A` (R424). -/
def execSet6A (s : State) : Result := .next (setReg 6 .a s)

/-- `SET 7,B` (R424). -/
def execSet7B (s : State) : Result := .next (setReg 7 .b s)

/-- `SET 7,C` (R424). -/
def execSet7C (s : State) : Result := .next (setReg 7 .c s)

/-- `SET 7,D` (R424). -/
def execSet7D (s : State) : Result := .next (setReg 7 .d s)

/-- `SET 7,E` (R424). -/
def execSet7E (s : State) : Result := .next (setReg 7 .e s)

/-- `SET 7,H` (R424). -/
def execSet7H (s : State) : Result := .next (setReg 7 .h s)

/-- `SET 7,L` (R424). -/
def execSet7L (s : State) : Result := .next (setReg 7 .l s)

/-- `SET 7,(HL)` (R425). -/
def execSet7AtHl (s : State) : Result := .next (setAtHl 7 s)

/-- `SET 7,A` (R424). -/
def execSet7A (s : State) : Result := .next (setReg 7 .a s)

end Sys2Proof.Machine
end

