-- ==== Sys2Proof/WellFormed.lean ====
section
/-! DEFINITION. Which instruction terms stand for an instruction of the machine. The ranges of operands
are their types' (an immediate is 8 or 16 bits, R162), so one check is left. -/

namespace Sys2Proof

/-- The row `PREFIX CB` of the opcode table: "The prefix is not an instruction by itself" (R495). -/
def Instr.isPrefix (i : Instr) : Bool :=
  match i with
  | .prefixCb _ => true
  | _ => false

/-- Every term but the bare prefix row is an instruction; the words `CB op2` are the prefixed
instruction's (R174, R495; notes/assumptions/12.md). -/
def Instr.wellFormed (i : Instr) : Bool := !i.isPrefix

end Sys2Proof
end

