-- ==== Sys2Proof/Machine/System.lean ====
section
/-! DEFINITION. Processor control, the prefix row and the unused opcodes (47_system.md R490 to R496). -/

namespace Sys2Proof.Machine

/-- Enter the halted state: PC past the `HALT`, `cpuNext` IDLE (R491). -/
def haltAt (s : State) : State := { s with pc := s.pc + 1, cpuNext := none }

/-- `rot[y]`, `BIT`, `RES` or `SET` on the operand `r8[z]` (R404 to R425). -/
def rotateArg (op : RotOp) (x : Arg8) (s : State) : State :=
  match x with
  | .reg r => rotateReg op r s
  | .atHl => rotateAtHl op s

def testArg (b : Fin 8) (x : Arg8) (s : State) : State :=
  match x with
  | .reg r => testReg b r s
  | .atHl => testAtHl b s

def resetArg (b : Fin 8) (x : Arg8) (s : State) : State :=
  match x with
  | .reg r => resetReg b r s
  | .atHl => resetAtHl b s

def setArg (b : Fin 8) (x : Arg8) (s : State) : State :=
  match x with
  | .reg r => setReg b r s
  | .atHl => setAtHl b s

/-- `execute prefixed[op2]` (R495, R174), by the fields of `op2` (R161). The decoder gives the words
`CB op2` to the prefixed rows themselves, so a run reaches this meaning only through the bare row
`PREFIX CB` (notes/assumptions/12.md). -/
def prefixed (op2 : Byte) (s : State) : State :=
  match (fieldX op2).toNat with
  | 0 => rotateArg (rotOf (fieldY op2)) (r8 (fieldZ op2)) s
  | 1 => testArg (bitIndex (fieldY op2)) (r8 (fieldZ op2)) s
  | 2 => resetArg (bitIndex (fieldY op2)) (r8 (fieldZ op2)) s
  | _ => setArg (bitIndex (fieldY op2)) (r8 (fieldZ op2)) s

/-! ## One meaning per row -/

/-- `NOP` (R490). -/
def execNop (s : State) : Result := .next (advance 1 1 s)

/-- `STOP` (R492). -/
def execStop (s : State) : Result := .next (raiseFault (.stopFault s.pc) s)

/-- `HALT` (R491). -/
def execHalt (s : State) : Result := .next (haltAt s)

/-- `PREFIX CB` (R495). -/
def execPrefixCb (op2 : Byte) (s : State) : Result := .next (prefixed op2 s)

/-- The unused opcode 0xD3 (R496). -/
def execUnusedD3 (s : State) : Result := .next (raiseFault (.illegalOpcode s.pc 0xD3) s)

/-- The unused opcode 0xDB (R496). -/
def execUnusedDB (s : State) : Result := .next (raiseFault (.illegalOpcode s.pc 0xDB) s)

/-- The unused opcode 0xDD (R496). -/
def execUnusedDD (s : State) : Result := .next (raiseFault (.illegalOpcode s.pc 0xDD) s)

/-- The unused opcode 0xE3 (R496). -/
def execUnusedE3 (s : State) : Result := .next (raiseFault (.illegalOpcode s.pc 0xE3) s)

/-- The unused opcode 0xE4 (R496). -/
def execUnusedE4 (s : State) : Result := .next (raiseFault (.illegalOpcode s.pc 0xE4) s)

/-- The unused opcode 0xEB (R496). -/
def execUnusedEB (s : State) : Result := .next (raiseFault (.illegalOpcode s.pc 0xEB) s)

/-- The unused opcode 0xEC (R496). -/
def execUnusedEC (s : State) : Result := .next (raiseFault (.illegalOpcode s.pc 0xEC) s)

/-- The unused opcode 0xED (R496). -/
def execUnusedED (s : State) : Result := .next (raiseFault (.illegalOpcode s.pc 0xED) s)

/-- `DI` (R493). -/
def execDi (s : State) : Result := .next (advance 1 1 { s with ime := false })

/-- The unused opcode 0xF4 (R496). -/
def execUnusedF4 (s : State) : Result := .next (raiseFault (.illegalOpcode s.pc 0xF4) s)

/-- `EI` (R494). -/
def execEi (s : State) : Result := .next (advance 1 1 { s with ime := true })

/-- The unused opcode 0xFC (R496). -/
def execUnusedFC (s : State) : Result := .next (raiseFault (.illegalOpcode s.pc 0xFC) s)

/-- The unused opcode 0xFD (R496). -/
def execUnusedFD (s : State) : Result := .next (raiseFault (.illegalOpcode s.pc 0xFD) s)

end Sys2Proof.Machine
end

