-- ==== Sys2Proof/Machine/Compose.lean ====
section
/-! DEFINITION. The compositor: one scanline from the registers, VRAM and OAM (61_display_controller.md
R630 to R655), pixel by pixel as R655 states it. VRAM and OAM are read directly, not through the bus
(R632). -/

namespace Sys2Proof.Machine

/-- A pixel of a layer: a colour, and whether it is opaque (R630). -/
structure Pixel where
  colour : Colour
  solid  : Bool
  deriving DecidableEq, Repr

/-- `(colour 0, not opaque)`. -/
def clearPixel : Pixel := { colour := 0, solid := false }

/-- `VRAM[k]` (R70). -/
def vramByte (s : State) (k : Nat) : Byte := s.mem.read (0x8000 + k)

/-- `OAM[k]` (R71). -/
def oamByte (s : State) (k : Nat) : Byte := s.mem.read (0xFE00 + k)

/-- `Pal(P, k) = P[2k + 1 : 2k]` (R633, R67). -/
def pal (p : Byte) (k : Colour) : Colour := p.extractLsb' (2 * k.toNat) 2

/-- Offset in VRAM of tile `t`'s 16 bytes (R632). -/
def tileBase (t : Byte) (unsignedArea : Bool) : Nat :=
  if unsignedArea then 16 * t.toNat else 0x0800 + 16 * ((t.toNat + 128) % 256)

/-- `TilePixel(t, r, col, unsignedArea)` (R632). -/
def tilePixel (s : State) (t : Byte) (r col : Nat) (unsignedArea : Bool) : Colour :=
  let lsb := vramByte s (tileBase t unsignedArea + 2 * r)
  let msb := vramByte s (tileBase t unsignedArea + 2 * r + 1)
  BitVec.ofBool (msb.getLsbD (7 - col)) ++ BitVec.ofBool (lsb.getLsbD (7 - col))

/-- Offset in VRAM of a tile map: 0x9C00 or 0x9800 (R631, R640). -/
def mapBase (high : Bool) : Nat := if high then 0x1C00 else 0x1800

/-- `Bg(L, x)` (R631). -/
def backgroundPixel (s : State) (line x : Nat) : Pixel :=
  if s.lcd.lcdc.getLsbD 0 then
    let by' := (line + s.lcd.scy.toNat) % 256
    let bx := (x + s.lcd.scx.toNat) % 256
    let t := vramByte s (mapBase (s.lcd.lcdc.getLsbD 3) + 32 * (by' / 8) + bx / 8)
    let raw := tilePixel s t (by' % 8) (bx % 8) (s.lcd.lcdc.getLsbD 4)
    { colour := pal s.lcd.bgp raw, solid := raw != 0 }
  else clearPixel

/-- `WX' = max(0, WX - 7)` (R640). -/
def windowLeft (d : Lcd) : Nat := d.wx.toNat - 7

/-- `winActive(L)` (R640). -/
def windowActive (d : Lcd) (line : Nat) : Bool :=
  d.lcdc.getLsbD 5 && decide (windowLeft d < Config.lcdWidth) && decide (d.wy.toNat ≤ line)

/-- `Win(x)`, for an active window and `x >= WX'` (R640). -/
def windowPixel (s : State) (x : Nat) : Colour :=
  let wx := x - windowLeft s.lcd
  let t := vramByte s (mapBase (s.lcd.lcdc.getLsbD 6) + 32 * (s.lcd.winY / 8) + wx / 8)
  pal s.lcd.bgp (tilePixel s t (s.lcd.winY % 8) (wx % 8) (s.lcd.lcdc.getLsbD 4))

/-- Height of every sprite (R650). -/
def spriteHeight (d : Lcd) : Nat := if d.lcdc.getLsbD 2 then 16 else 8

/-- Does sprite `k` lie on the line? On integers: `OAM[4k] - 16` may be negative (R650). -/
def spriteHits (s : State) (line k : Nat) : Bool :=
  let top : Int := (oamByte s (4 * k)).toNat - 16
  decide (top ≤ line) && decide ((line : Int) < top + spriteHeight s.lcd)

/-- Is sprite `j` on top of sprite `k`? Smaller X, then smaller index (R650). -/
def spriteBefore (s : State) (j k : Nat) : Bool :=
  let xj := (oamByte s (4 * j + 1)).toNat
  let xk := (oamByte s (4 * k + 1)).toNat
  decide (xj < xk) || (decide (xj = xk) && decide (j ≤ k))

/-- Insert a sprite into a list sorted by `spriteBefore`. -/
def insertSprite (s : State) (k : Nat) (sorted : List Nat) : List Nat :=
  match sorted with
  | [] => [k]
  | j :: rest => if spriteBefore s k j then k :: j :: rest else j :: insertSprite s k rest

/-- Sort by `(OAM[4s + 1], s)` (R650). -/
def sortSprites (s : State) (ks : List Nat) : List Nat :=
  match ks with
  | [] => []
  | k :: rest => insertSprite s k (sortSprites s rest)

/-- `Sprites(L)`: the first 10 hits in index order, sorted (R650). -/
def spritesOn (s : State) (line : Nat) : List Nat :=
  if s.lcd.lcdc.getLsbD 1 then
    sortSprites s (((List.range 40).filter (spriteHits s line)).take Config.maxSpritesPerLine)
  else []

/-- `Spr(s, L, x)` (R651). -/
def spritePixel (s : State) (k line x : Nat) : Pixel :=
  let y := oamByte s (4 * k)
  let tile := oamByte s (4 * k + 2)
  let attr := oamByte s (4 * k + 3)
  let h := spriteHeight s.lcd
  let col : Int := (x : Int) - ((oamByte s (4 * k + 1)).toNat - 8)
  if col < 0 ∨ col > 7 then clearPixel
  else
    let row : Int := (line : Int) - (y.toNat - 16)
    let row : Int := if attr.getLsbD 6 then (h : Int) - 1 - row else row
    let col : Int := if attr.getLsbD 5 then 7 - col else col
    let t : Byte := if h = 16 then (tile &&& 0xFE) + BitVec.ofInt 8 (row / 8) else tile
    let raw := tilePixel s t (row % 8).toNat col.toNat true
    { colour := pal (if attr.getLsbD 4 then s.lcd.obp1 else s.lcd.obp0) raw, solid := raw != 0 }

/-- `Layer(list, L, x)`: the first opaque pixel (R652). -/
def layerPixel (s : State) (ks : List Nat) (line x : Nat) : Pixel :=
  match ks with
  | [] => clearPixel
  | k :: rest => if (spritePixel s k line x).solid then spritePixel s k line x else layerPixel s rest line x

/-- `OAM[4s + 3][7]`: the sprite goes to the behind layer (R652). -/
def spriteBehind (s : State) (k : Nat) : Bool := (oamByte s (4 * k + 3)).getLsbD 7

/-- `ComposeLine(L)[x]`, from the line's two sprite layers (R655). -/
def composePixel (s : State) (behind front : List Nat) (line x : Nat) : Colour :=
  let b := backgroundPixel s line x
  let h := layerPixel s behind line x
  let f := layerPixel s front line x
  let p := if !b.solid && h.solid then h.colour else b.colour
  let p := if windowActive s.lcd line && decide (windowLeft s.lcd ≤ x) then windowPixel s x else p
  if f.solid then f.colour else p

/-- `ComposeLine(L)` (R630, R655), less its advance of `winY`. -/
def composeLine (s : State) (line : Nat) : Row :=
  let sprites := spritesOn s line
  let behind := sprites.filter (spriteBehind s)
  let front := sprites.filter (fun k => !spriteBehind s k)
  (List.range Config.lcdWidth).map (composePixel s behind front line)

end Sys2Proof.Machine
end

