-- ==== Sys2Proof/Machine/Lcd.lean ====
section
/-! DEFINITION. The display controller's step: the mode machine and the DMA quick-copy
(61_display_controller.md R601, R610 to R627, R660). -/

namespace Sys2Proof.Machine

/-- `lcdNext <- c + n`. -/
def lcdNextIn (n : Nat) (s : State) : State := { s with lcd := { s.lcd with next := some (s.cycle + n) } }

/-- The frame state reset: `winY <- 0; lineBuf <- empty` (R613, R626). -/
def resetFrame (s : State) : State := { s with lcd := { s.lcd with winY := 0, lineBuf := [] } }

/-- `EnterMode2(L, c)` (R621). -/
def enterMode2 (line : Byte) (s : State) : State := lcdNextIn Config.mode2Cycles (setMode 2 (setLy line s))

/-- `lineBuf <- lineBuf ++ [ComposeLine(LY)]`, and `winY` advanced on an active line (R622, R640). -/
def composeCurrentLine (s : State) : State :=
  let line := s.lcd.ly.toNat
  { s with lcd := { s.lcd with
      lineBuf := s.lcd.lineBuf ++ [composeLine s line]
      winY := if windowActive s.lcd line then s.lcd.winY + 1 else s.lcd.winY } }

/-- `EnterMode3(c)` (R622). -/
def enterMode3 (s : State) : State := lcdNextIn Config.mode3Cycles (composeCurrentLine (setMode 3 s))

/-- `EnterMode0(c)` (R623). -/
def enterMode0 (s : State) : State := lcdNextIn Config.mode0Cycles (setMode 0 s)

/-- `Publish()`: `image <-` the rows of `lineBuf`, in order (R610). -/
def publish (s : State) : State := { s with lcd := { s.lcd with image := s.lcd.lineBuf } }

/-- `EnterMode1(c)` (R624). -/
def enterMode1 (s : State) : State :=
  lcdNextIn Config.lineCycles (requestInterrupt 0 (publish (setMode 1 (setLy 144 s))))

/-- The mode machine when it is due: the six pairs `(MODE, LY)` of R601. The pairs R601 calls unreachable
make no transition (notes/assumptions/9.md). -/
def modeTransition (s : State) : State :=
  let ly := s.lcd.ly
  match s.lcd.mode.toNat with
  | 2 => enterMode3 s
  | 3 => enterMode0 s
  | 0 =>
    if ly.toNat < 143 then enterMode2 (ly + 1) s
    else if ly.toNat = 143 then enterMode1 s
    else s
  | _ =>
    if ly.toNat < 153 then lcdNextIn Config.lineCycles (setLy (ly + 1) s)
    else if ly.toNat = 153 then enterMode2 0 (resetFrame s)
    else s

/-- The mode machine's part of `LcdStep(c)` (R601). -/
def modeStep (s : State) : State :=
  match s.lcd.next with
  | none => if s.lcd.lcdc.getLsbD 7 then enterMode2 0 (resetFrame s) else s
  | some n => if n = s.cycle then modeTransition s else s

/-- The bus address of the byte the quick-copy reads next: `dmaSrc + dmaIdx` (R660). It does not leave
the address space, because the low byte of `dmaSrc` is 0 (R77; notes/assumptions/11.md). -/
def dmaAddr (d : Lcd) : Word := d.dmaSrc + BitVec.ofNat 16 d.dmaIdx

/-- `DmaStep()` (R660): the byte is read through the bus and written to OAM directly (R130). -/
def dmaStep (s : State) : State :=
  if s.lcd.dmaIdx < Config.dmaLength then
    { s with
      mem := s.mem.write (0xFE00 + s.lcd.dmaIdx) (busRead s (dmaAddr s.lcd))
      lcd := { s.lcd with dmaIdx := s.lcd.dmaIdx + 1 } }
  else s

/-- `LcdStep(c)` (R601). -/
def lcdStep (s : State) : State := dmaStep (modeStep s)

end Sys2Proof.Machine
end

