-- ==== Sys2Proof/Machine/Cpu.lean ====
section
/-! DEFINITION. The processor's step, instruction fetch, and the clock step that runs the three
clock-driven devices (60_exceptions.md R510, R530 to R533, R540; 30_encoding.md R167, R169). -/

namespace Sys2Proof.Machine

/-- The bytes from address `a` on, at most `k`, without passing 0xFFFF: operand addresses do not wrap
(R167). Reading has no side effect (R123), so reading up to three bytes where an instruction is shorter is
not observable (notes/assumptions/16.md). -/
def bytesFrom (s : State) (k a : Nat) : List Byte :=
  match k with
  | 0 => []
  | k + 1 =>
    if a < Config.addressLimit then busRead s (BitVec.ofNat 16 a) :: bytesFrom s k (a + 1) else []

/-- What the decoder reads at PC. -/
def fetch (s : State) : Decoded := decode (bytesFrom s 3 s.pc.toNat)

/-- `ExecuteInstruction()` (R533, R169). An operand byte that would lie above 0xFFFF is a fault with its
address (R167); the opcode byte itself always exists. -/
def executeInstruction (s : State) : Result :=
  match fetch s with
  | .ok i _ => exec i s
  | .error (.missingOperand k) => .next (raiseFault (.addressRange (s.pc.toNat + k)) s)
  | .error .noOpcode => .next (raiseFault (.addressRange s.pc.toNat) s)

/-- Does this step leave the halted state? (R530, R531) -/
def wakes (s : State) : Bool := s.cpuNext.isNone && pending s != 0

/-- The state the processor acts in: a wake-up makes it due in this cycle (R530). -/
def wakeUp (s : State) : State := if wakes s then { s with cpuNext := some s.cycle } else s

/-- Is an interrupt dispatched, rather than an instruction executed? (R530, R531) -/
def takesInterrupt (s : State) : Bool := pending s != 0 && (s.ime || (wakes s && s.haltWake))

/-- A unit of work that raised a fault leaves the state as it was when the processor's step began, with
the mark set (R540; notes/assumptions/15.md for a fault after a wake-up). -/
def settle (start t : State) : State :=
  match t.fault with
  | some f => raiseFault f start
  | none => t

/-- The same on the outcome of a unit of work. -/
def settleResult (start : State) (r : Result) : Result :=
  match r with
  | .next t => .next (settle start t)
  | .fault f => .fault f
  | .refused e => .refused e

/-- `Dispatch(lowest i with pending[i] = 1)` (R530, R534a). -/
def dispatchLowest (s : State) : State :=
  match lowestPending (pending s) with
  | some i => dispatch i s
  | none => s

/-- `CpuStep(c)` (R530). -/
def cpuStep (s : State) : Result :=
  if (wakeUp s).cpuNext = some s.cycle then
    settleResult s
      (if takesInterrupt s then .next (dispatchLowest (wakeUp s)) else executeInstruction (wakeUp s))
  else .next s

/-- `if fault = empty: c <- c + 1` (R510). -/
def countCycle (s : State) : State := if s.fault.isNone then { s with cycle := s.cycle + 1 } else s

/-- The end of a clock step on the processor's outcome. -/
def countResult (r : Result) : Result :=
  match r with
  | .next t => .next (countCycle t)
  | .fault f => .fault f
  | .refused e => .refused e

/-- `Tick()` (R510): timer, display controller, processor, in this order; a faulted machine does not
move. -/
def tick (s : State) : Result :=
  if s.fault.isSome then .next s else countResult (cpuStep (lcdStep (timerStep s)))

/-! ## Placing an instruction where the machine fetches -/

/-- A cartridge that answers `v` at `a`, an address of Ext's windows: the one in place, with its RAM window
made present where `a` lies in it, or an empty one in place of a device whose storage is not known. -/
def pokeCartridge (a : Nat) (v : Byte) (e : Ext) : Cartridge :=
  match e with
  | .cartridge c =>
    if a < 0x0100 ∧ c.bootMapped then { c with boot := c.boot.write a v }
    else { c with bytes := c.bytes.write a v, ramPresent := c.ramPresent || decide (0xA000 ≤ a) }
  | .given _ =>
    { bytes := Memory.write [] a v, bootMapped := false, boot := [], romWritable := false, ramPresent := true }

/-- Store a byte in the storage behind address `a`, without the side effects of a bus write and also where
the bus would drop the write (a boot ROM). An address with no storage of its own keeps what it has. -/
def pokeByte (a : Nat) (v : Byte) (s : State) : State :=
  if a = 0xFFFF then { s with ie := v }
  else if a = 0xFF0F then { s with iflag := v }
  else if a < 0x8000 ∨ (0xA000 ≤ a ∧ a < 0xC000) then { s with ext := .cartridge (pokeCartridge a v s.ext) }
  else if 0xE000 ≤ a ∧ a < 0xFE00 then { s with mem := s.mem.write (a - 0x2000) v }
  else if a < 0xFEA0 ∨ 0xFF80 ≤ a then { s with mem := s.mem.write a v }
  else s

/-- Store bytes from `a` on, up to 0xFFFF. -/
def pokeBytes (bytes : List Byte) (a : Nat) (s : State) : State :=
  match bytes with
  | [] => s
  | v :: rest => if a < Config.addressLimit then pokeBytes rest (a + 1) (pokeByte a v s) else s

/-- Make the processor due in this cycle with no fault and no interrupt to take first. -/
def makeDue (s : State) : State :=
  { s with fault := none, cpuNext := some s.cycle, ime := s.ime && (s.ie &&& 0x1F == 0) }

end Sys2Proof.Machine
end

