-- ==== Sys2Proof/Machine/Step.lean ====
section
/-! DEFINITION. One step of the machine: one cycle of its clock (60_exceptions.md R510). -/

namespace Sys2Proof.Machine

/-- `Tick()` (R510). -/
def step (s : State) : Host.Outcome State Fault Refusal := tick s

/-- `s` with the instruction of a table row stored where `step` fetches next: at PC, in the storage behind
that address, with the processor due in this cycle (notes/assumptions/14.md). -/
def State.withFetchWord (s : State) (nbits w : Nat) : State :=
  makeDue (pokeBytes (tableBytes nbits w) s.pc.toNat s)

end Sys2Proof.Machine
end

