-- ==== Sys2Proof/Machine/Driver.lean ====
section
/-! DEFINITION. What the host may do between two clock steps (60_exceptions.md R512, R513, R521;
61_display_controller.md R610). None of it happens inside `step` (notes/assumptions/4.md). -/

namespace Sys2Proof.Machine

/-- At most `n` clock steps, none of them on a faulted machine: the loop of R512. -/
def runCycles (n : Nat) (s : State) : Result :=
  match n with
  | 0 => .next s
  | n + 1 =>
    if s.fault.isSome then .next s
    else
      match tick s with
      | .next t => runCycles n t
      | .fault f => .fault f
      | .refused e => .refused e

/-- `advance(t)` (R512): refused, with no state change, for a target behind the current cycle; else the
cycles `c .. t - 1`, until a fault. Every cycle without a fault counts one, so `t - c` steps are the loop
(notes/assumptions/19.md). -/
def advanceTo (target : Nat) (s : State) : Result :=
  if target < s.cycle then .refused (.driverPrecondition target s.cycle)
  else runCycles (target - s.cycle) s

/-- The host's `RequestInterrupt(i)`: an index outside 0..4 is refused, with no state change (R521). -/
def hostRequestInterrupt (i : Nat) (s : State) : Result :=
  if h : i < 5 then .next (requestInterrupt ⟨i, h⟩ s) else .refused (.interruptIndex i)

/-- The host changes the state of `Ext` between two clock steps: bank state, another cartridge (R513). -/
def hostSetExt (e : Ext) (s : State) : State := { s with ext := e }

/-- The host changes the state of `Joypad` between two clock steps: button presses (R513). The interrupt a
press may request is `hostRequestInterrupt 4` (R112, R521). -/
def hostSetJoypad (j : Joypad) (s : State) : State := { s with joypad := j }

/-- The "current completed frame" accessor (R610). -/
def currentImage (s : State) : List Row := s.lcd.image

/-- `RunUntil(pred)` for at most `fuel` steps (R513): the spec's loop need not end. `none`: it has not
ended within the fuel. -/
def runUntil (pred : State → Bool) (fuel : Nat) (s : State) : Option Result :=
  if pred s || s.fault.isSome then some (.next s)
  else
    match fuel with
    | 0 => none
    | fuel + 1 =>
      match tick s with
      | .next t => runUntil pred fuel t
      | .fault f => some (.fault f)
      | .refused e => some (.refused e)

end Sys2Proof.Machine
end

