-- ==== Sys2Proof/Safety.lean ====
section
/-! DEFINITION. The terms the claims use: what a safe run is, the invariants of the machine, the operand
forms a claim ranges over, and what an instruction leaves unchanged. -/

namespace Sys2Proof.Machine

/-! ## Runs -/

/-- The terminal state of R540. -/
def State.faulted (s : State) : Bool := s.fault.isSome

/-- The halted state is the value IDLE of `cpuNext` (R41, R570). -/
def State.halted (s : State) : Bool := s.cpuNext.isNone

/-- `n` clock steps from `s` meet no fault: "a state that is never an acceptable end state" (R540). -/
def SafeFor (n : Nat) (s : State) : Prop :=
  match n with
  | 0 => s.faulted = false
  | n + 1 => s.faulted = false ∧ ∀ t, step s = .next t → SafeFor n t

/-- `t` is what `k` clock steps make of `s`, none of them taken on a faulted machine: the loop
`while .. and fault = empty: Tick()` of R512 and R513. -/
inductive Reaches : Nat → State → State → Prop where
  | stay (s : State) : Reaches 0 s s
  | tick {k : Nat} {s u t : State} (ok : s.fault = none) (one : step s = .next u) (more : Reaches k u t) :
    Reaches (k + 1) s t

/-- The state the processor's step of this cycle sees: after the timer's and the display's (R510). -/
def beforeCpu (s : State) : State := lcdStep (timerStep s)

/-- The processor is due in this cycle and executes an instruction, with no interrupt to take (R530). -/
def Executes (u : State) : Prop := u.cpuNext = some u.cycle ∧ takesInterrupt u = false

/-! ## Invariants -/

/-- F's low nibble is always 0 (R33). -/
def FlagsInv (s : State) : Prop := s.regs.f &&& 0x0F = 0

/-- A cartridge's two memories are in canonical form; a given device's state has no form of ours. -/
def Ext.wf (e : Ext) : Bool :=
  match e with
  | .cartridge c => c.bytes.wf && c.boot.wf
  | .given _ => true

/-- Every byte memory is in its canonical form. -/
def MemoryInv (s : State) : Prop := s.mem.wf = true ∧ s.ext.wf = true

/-- `tDiv[1:0] = 0` always (R554). -/
def TimerInv (s : State) : Prop := s.timer.tDiv &&& 3 = 0

/-- `dmaSrc`'s low byte is 0 and `dmaIdx` is 0..160 (R77). -/
def DmaInv (s : State) : Prop := lo8 s.lcd.dmaSrc = 0 ∧ s.lcd.dmaIdx ≤ Config.dmaLength

/-- `cpuNext >= c`, or IDLE (R530). -/
def CpuInv (s : State) : Prop := ∀ n, s.cpuNext = some n → s.cycle ≤ n

/-- Where the mode machine is inside the frame, and how many rows it has composed (R601, R610, R627). -/
inductive DisplayPhase (d : Lcd) (c : Nat) : Prop where
  | off (idle : d.next = none) (mode : d.mode = 0) (line : d.ly = 0)
  | scan (n : Nat) (due : d.next = some n) (ahead : c ≤ n) (mode : d.mode = 2)
      (line : d.ly.toNat ≤ 143) (rows : d.lineBuf.length = d.ly.toNat)
  | transfer (n : Nat) (due : d.next = some n) (ahead : c ≤ n) (mode : d.mode = 3)
      (line : d.ly.toNat ≤ 143) (rows : d.lineBuf.length = d.ly.toNat + 1)
  | hblank (n : Nat) (due : d.next = some n) (ahead : c ≤ n) (mode : d.mode = 0)
      (line : d.ly.toNat ≤ 143) (rows : d.lineBuf.length = d.ly.toNat + 1)
  | vblank (n : Nat) (due : d.next = some n) (ahead : c ≤ n) (mode : d.mode = 1)
      (first : 144 ≤ d.ly.toNat) (last : d.ly.toNat ≤ 153) (rows : d.lineBuf.length = 144)

/-- The display controller's hidden state (R72 to R76, R601). -/
structure DisplayInv (s : State) : Prop where
  phase   : DisplayPhase s.lcd s.cycle
  on      : s.lcd.next.isSome → s.lcd.lcdc.getLsbD 7 = true
  rows    : s.lcd.lineBuf.length ≤ Config.lcdHeight
  widths  : ∀ r ∈ s.lcd.lineBuf, r.length = Config.lcdWidth
  window  : s.lcd.winY ≤ s.lcd.lineBuf.length
  height  : s.lcd.image.length = Config.lcdHeight
  columns : ∀ r ∈ s.lcd.image, r.length = Config.lcdWidth

/-! ## The length of an instruction (30_encoding.md R177) -/

/-- Length by first byte, from the list of R177 (an unused opcode, which has no length, counts as 1). -/
def opcodeLength (op : Byte) : Nat :=
  if op ∈ ([0x01, 0x11, 0x21, 0x31, 0x08, 0xC2, 0xCA, 0xD2, 0xDA, 0xC3, 0xC4, 0xCC, 0xD4, 0xDC, 0xCD,
      0xEA, 0xFA] : List Byte) then 3
  else if op ∈ ([0x06, 0x0E, 0x16, 0x1E, 0x26, 0x2E, 0x36, 0x3E, 0xC6, 0xCE, 0xD6, 0xDE, 0xE6, 0xEE,
      0xF6, 0xFE, 0x18, 0x20, 0x28, 0x30, 0x38, 0xE8, 0xF8, 0xE0, 0xF0, 0xCB] : List Byte) then 2
  else 1

/-! ## Operand forms -/

/-- The three forms of an 8-bit source operand (R330): a register, an immediate, the byte at HL. -/
inductive Src8 where
  | reg (r : Reg8)
  | imm (n : Byte)
  | atHl
  deriving DecidableEq, Repr

/-- The operand's value. -/
def Src8.value (x : Src8) (s : State) : Byte :=
  match x with
  | .reg r => s.reg8 r
  | .imm n => n
  | .atHl => busRead s s.hl

/-- Bytes of an instruction with this operand. -/
def Src8.len (x : Src8) : Word :=
  match x with
  | .imm _ => 2
  | _ => 1

/-- Cycles of an instruction with this operand. -/
def Src8.cycles (x : Src8) : Nat :=
  match x with
  | .reg _ => 1
  | _ => 2

/-- The pointer forms of the accumulator's loads and stores (R255 to R264). -/
inductive Pointer where
  | bc
  | de
  | abs (n : Word)
  | pageC
  | page (a : Byte)
  deriving DecidableEq, Repr

/-- The effective address (R270). -/
def Pointer.addr (p : Pointer) (s : State) : Word :=
  match p with
  | .bc => make16 s.regs.b s.regs.c
  | .de => make16 s.regs.d s.regs.e
  | .abs n => n
  | .pageC => make16 0xFF s.regs.c
  | .page a => make16 0xFF a

def Pointer.len (p : Pointer) : Word :=
  match p with
  | .bc => 1
  | .de => 1
  | .abs _ => 3
  | .pageC => 1
  | .page _ => 2

def Pointer.cycles (p : Pointer) : Nat :=
  match p with
  | .bc => 2
  | .de => 2
  | .abs _ => 4
  | .pageC => 2
  | .page _ => 3

end Sys2Proof.Machine

namespace Sys2Proof.Instr

open Sys2Proof.Machine (Src8 Pointer)

/-- `LD r,r'`, `LD r,n8`, `LD r,(HL)` (R250 to R252). -/
def load (r : Reg8) (x : Src8) : Instr :=
  match x with
  | .reg q => .ldRegReg r q
  | .imm n => .ldRegN8 r n
  | .atHl => .ldRegHl r

/-- The register, immediate and memory forms of `alu[y]` (R330). -/
def alu (op : AluOp) (x : Src8) : Instr :=
  match x with
  | .reg r => .aluReg op r
  | .imm n => .aluN8 op n
  | .atHl => .aluHl op

/-- `LD A,(BC)`, `LD A,(DE)`, `LD A,(a16)`, `LDH A,(C)`, `LDH A,(a8)`. -/
def loadA (p : Pointer) : Instr :=
  match p with
  | .bc => .ldAAtBc
  | .de => .ldAAtDe
  | .abs n => .ldAAtA16 n
  | .pageC => .ldhAAtC
  | .page a => .ldhAAtA8 a

/-- `LD (BC),A`, `LD (DE),A`, `LD (a16),A`, `LDH (C),A`, `LDH (a8),A`. -/
def storeA (p : Pointer) : Instr :=
  match p with
  | .bc => .ldAtBcA
  | .de => .ldAtDeA
  | .abs n => .ldAtA16A n
  | .pageC => .ldhAtCA
  | .page a => .ldhAtA8A a

/-- `RLCA`, `RRCA`, `RLA`, `RRA`: the four operations that have an unprefixed form (R400 to R403). -/
def rotA (left thruCarry : Bool) : Instr :=
  match left, thruCarry with
  | true, false => .rlca
  | false, false => .rrca
  | true, true => .rla
  | false, true => .rra

end Sys2Proof.Instr

namespace Sys2Proof.Machine

/-! ## What an instruction leaves unchanged -/

/-- Everything a bus access can reach, and everything behind it, is equal. -/
structure SameBus (s t : State) : Prop where
  mem    : t.mem = s.mem
  ie     : t.ie = s.ie
  iflag  : t.iflag = s.iflag
  timer  : t.timer = s.timer
  lcd    : t.lcd = s.lcd
  ext    : t.ext = s.ext
  joypad : t.joypad = s.joypad

/-- Nothing was stored: every device is as before, so every byte reads as before. -/
structure KeptBus (s t : State) : Prop where
  same  : SameBus s t
  bytes : ∀ a, busRead t a = busRead s a

/-- How an instruction ends: `PC`, `cpuNext`, and what no instruction without a fault touches (R168). -/
structure EndsAt (s t : State) (target : Word) (cycles : Nat) : Prop where
  pc       : t.pc = target
  cpuNext  : t.cpuNext = some (s.cycle + cycles)
  cycle    : t.cycle = s.cycle
  fault    : t.fault = s.fault
  haltWake : t.haltWake = s.haltWake

/-- The frame of an instruction that stores nothing: all general registers but those of `dst`, SP, IME,
every device and every byte of memory are as before. -/
structure RegFrame (s t : State) (dst : List Reg8) (target : Word) (cycles : Nat) : Prop where
  ends : EndsAt s t target cycles
  regs : ∀ r, r ∉ dst → t.reg8 r = s.reg8 r
  sp   : t.sp = s.sp
  ime  : t.ime = s.ime
  bus  : KeptBus s t

/-- Does Ext store a byte written at `a` and answer it? A cartridge does in writable ROM space that no boot
ROM covers and in its RAM window; of a given device nothing is said (notes/assumptions/2.md). -/
def Ext.keeps (e : Ext) (a : Word) : Prop :=
  ∃ c, e = .cartridge c
    ∧ ((a.toNat < 0x8000 ∧ c.romWritable = true ∧ (c.bootMapped = false ∨ 0x100 ≤ a.toNat))
      ∨ (0xA000 ≤ a.toNat ∧ a.toNat < 0xC000 ∧ c.ramPresent = true))

/-- Can a write at `a` change what Ext answers at another address `b`? 0xFF50 uncovers a cartridge's first
256 bytes; a given device may do anything inside its windows (R112, R123; notes/assumptions/2.md). -/
def Ext.reaches (e : Ext) (a b : Word) : Prop :=
  (∃ c, e = .cartridge c ∧ c.bootMapped = true ∧ a = 0xFF50 ∧ b.toNat < 0x100)
    ∨ ∃ st, e = .given st ∧ (inExtWindow a = true ∨ a = 0xFF50) ∧ inExtWindow b = true

/-- After a store of a byte at `a`, does a bus read of `a` return that byte? Memory and the registers of
R85 that store what is written: not DIV, STAT, LY, not ROM, not unmapped space (R105, R123). -/
def readsBack (s : State) (a : Word) : Prop :=
  s.ext.keeps a
    ∨ (0x8000 ≤ a.toNat ∧ a.toNat < 0xA000)
    ∨ (0xC000 ≤ a.toNat ∧ a.toNat < 0xFEA0)
    ∨ a = 0xFF05 ∨ a = 0xFF06 ∨ a = 0xFF07 ∨ a = 0xFF0F ∨ a = 0xFF40 ∨ a = 0xFF42 ∨ a = 0xFF43
    ∨ (0xFF45 ≤ a.toNat ∧ a.toNat ≤ 0xFF4B) ∨ 0xFF80 ≤ a.toNat

/-- Can a store at `a` change what a bus read of `b` returns? `a` itself, its echo alias (R111), and what
the spec says a store also does there: DIV and TAC may tick TIMA and request (R557, R559), LCDC may power
off (R612), LYC re-evaluates the coincidence (R602), and Ext does inside Ext (R112). -/
def storeReaches (s : State) (a b : Word) : Prop :=
  b = a
    ∨ (0xC000 ≤ a.toNat ∧ a.toNat ≤ 0xDDFF ∧ b.toNat = a.toNat + 0x2000)
    ∨ (0xE000 ≤ a.toNat ∧ a.toNat ≤ 0xFDFF ∧ b.toNat + 0x2000 = a.toNat)
    ∨ ((a = 0xFF04 ∨ a = 0xFF07) ∧ (b = 0xFF05 ∨ b = 0xFF0F))
    ∨ (a = 0xFF40 ∧ (b = 0xFF41 ∨ b = 0xFF44 ∨ b = 0xFF0F))
    ∨ (a = 0xFF45 ∧ (b = 0xFF41 ∨ b = 0xFF0F))
    ∨ s.ext.reaches a b

/-- The bus effect of a store of one byte: the devices are as after `BusWrite(a, v)` (R104), the byte reads
back where the location stores what is written, and every byte the store does not reach reads as before. -/
structure StoredByte (s t : State) (a : Word) (v : Byte) : Prop where
  bus   : SameBus (busWrite a v s) t
  back  : readsBack s a → busRead t a = v
  frame : ∀ b, ¬storeReaches s a b → busRead t b = busRead s b

/-- The bus effect of a store of two bytes, low byte first and at the lower address (R120, R122). -/
structure StoredWord (s t : State) (a w : Word) : Prop where
  bus   : SameBus (busWrite (a + 1) (hi8 w) (busWrite a (lo8 w) s)) t
  low   : readsBack s a → busRead t a = lo8 w
  high  : readsBack s (a + 1) → busRead t (a + 1) = hi8 w
  frame : ∀ b, ¬storeReaches s a b → ¬storeReaches s (a + 1) b → busRead t b = busRead s b

/-- The frame of an instruction that stores the byte `v` at `a`. -/
structure StoreFrame (s t : State) (dst : List Reg8) (target : Word) (cycles : Nat) (a : Word) (v : Byte) :
    Prop where
  ends  : EndsAt s t target cycles
  regs  : ∀ r, r ∉ dst → t.reg8 r = s.reg8 r
  sp    : t.sp = s.sp
  ime   : t.ime = s.ime
  store : StoredByte s t a v

/-- The frame of an instruction that stores the word `w` at `a`; no general register changes. SP is the
statement's to say. -/
structure StoreWordFrame (s t : State) (target : Word) (cycles : Nat) (a w : Word) : Prop where
  ends  : EndsAt s t target cycles
  regs  : t.regs = s.regs
  ime   : t.ime = s.ime
  store : StoredWord s t a w

/-- The frame of a 16-bit register operation on `dst`: A, the other pairs (SP among them), IME, every device
and every byte of memory are as before. F is the statement's to say. -/
structure PairFrame (s t : State) (dst : Pair) (target : Word) (cycles : Nat) : Prop where
  ends  : EndsAt s t target cycles
  a     : t.regs.a = s.regs.a
  pairs : ∀ p, p ≠ dst → t.pair p = s.pair p
  ime   : t.ime = s.ime
  bus   : KeptBus s t

/-- The frame of a return: PC from the stack, SP two higher, all registers, every device and every byte of
memory as before (R301, R458). IME is the statement's to say. -/
structure ReturnFrame (s t : State) (cycles : Nat) : Prop where
  ends : EndsAt s t (make16 (busRead s (s.sp + 1)) (busRead s s.sp)) cycles
  regs : t.regs = s.regs
  sp   : t.sp = s.sp + 2
  bus  : KeptBus s t

/-- The address fault of an instruction: the mark and nothing else (R107, R540). -/
def addressFaulted (s : State) : State := { s with fault := some (.addressRange 0x10000) }

/-! ## Laws the claims spell out beside the model's own definitions -/

/-- Value and carry of `rot[k]` (R207, R208), by whole-byte shifts and rotations. -/
def rotLaw (op : RotOp) (v : Byte) (cy : Bool) : Byte × Bool :=
  match op with
  | .rlc  => (v.rotateLeft 1, v.getLsbD 7)
  | .rrc  => (v.rotateRight 1, v.getLsbD 0)
  | .rl   => ((v <<< 1) ||| (if cy then 0x01 else 0), v.getLsbD 7)
  | .rr   => ((v >>> 1) ||| (if cy then 0x80 else 0), v.getLsbD 0)
  | .sla  => (v <<< 1, v.getLsbD 7)
  | .sra  => (v.sshiftRight 1, v.getLsbD 0)
  | .swap => (v.rotateLeft 4, false)
  | .srl  => (v >>> 1, v.getLsbD 0)

/-- The condition `cond[k]` on F (R165): Z is bit 7, Cy is bit 4. -/
def condLaw (cc : Cond) (f : Byte) : Bool :=
  match cc with
  | .nz => !f.getLsbD 7
  | .z  => f.getLsbD 7
  | .nc => !f.getLsbD 4
  | .c  => f.getLsbD 4

/-- The instructions R230 lists as writing F, and `POP AF` (R307). -/
inductive WritesFlags : Instr → Prop where
  | alu (op : AluOp) (x : Src8) : WritesFlags (.alu op x)
  | incReg (r : Reg8) : WritesFlags (.incReg r)
  | decReg (r : Reg8) : WritesFlags (.decReg r)
  | incAtHl : WritesFlags .incAtHl
  | decAtHl : WritesFlags .decAtHl
  | daa : WritesFlags .daa
  | cpl : WritesFlags .cpl
  | scf : WritesFlags .scf
  | ccf : WritesFlags .ccf
  | addHlPair (p : Pair) : WritesFlags (.addHlPair p)
  | addSpE8 (e : Byte) : WritesFlags (.addSpE8 e)
  | ldHlSpE8 (e : Byte) : WritesFlags (.ldHlSpE8 e)
  | rotA (left thruCarry : Bool) : WritesFlags (.rotA left thruCarry)
  | rotReg (op : RotOp) (r : Reg8) : WritesFlags (.rotReg op r)
  | rotHl (op : RotOp) : WritesFlags (.rotHl op)
  | bitReg (b : Fin 8) (r : Reg8) : WritesFlags (.bitReg b r)
  | bitHl (b : Fin 8) : WritesFlags (.bitHl b)
  | popAf : WritesFlags .popAf
  | prefixCb (op2 : Byte) : WritesFlags (.prefixCb op2)

/-- `armed()` of R555: TAC bit 2, and the bit of the primary counter that TAC's low two bits select. -/
def armedLaw (tac : Byte) (div : Word) : Bool :=
  tac.getLsbD 2 && div.getLsbD (if tac.toNat % 4 = 0 then 9 else if tac.toNat % 4 = 1 then 3
    else if tac.toNat % 4 = 2 then 5 else 7)

/-- The primary counter and TAC become `div` and `ctl`; a falling edge of the armed state ticks TIMA, which
reloads from TMA and requests interrupt 2 when it was 0xFF; nothing else changes (R554 to R559). -/
structure TimerMoved (s t : State) (div : Word) (ctl : Byte) : Prop where
  tDiv : t.timer.tDiv = div
  tac  : t.timer.tac = ctl
  tma  : t.timer.tma = s.timer.tma
  tick : armedLaw s.timer.tac s.timer.tDiv = true → armedLaw ctl div = false →
    (s.timer.tima = 0xFF → t.timer.tima = s.timer.tma ∧ t.iflag = s.iflag ||| 0x04)
      ∧ (s.timer.tima ≠ 0xFF → t.timer.tima = s.timer.tima + 1 ∧ t.iflag = s.iflag)
  hold : armedLaw s.timer.tac s.timer.tDiv = false ∨ armedLaw ctl div = true →
    t.timer.tima = s.timer.tima ∧ t.iflag = s.iflag
  rest : t = { s with timer := t.timer, iflag := t.iflag }

/-- What an update of the line counter to `line` and an entry into `mode` add to IF: interrupt 1 for a
coincidence with STAT bit 6, or for a mode whose enable bit is set (R605, R606). -/
def lcdRequest (s : State) (line : Option Byte) (mode : Option (BitVec 2)) : Byte :=
  if (line = some s.lcd.lyc ∧ s.lcd.stat.getLsbD 6 = true) ∨ (mode = some 0 ∧ s.lcd.stat.getLsbD 3 = true)
      ∨ (mode = some 1 ∧ s.lcd.stat.getLsbD 4 = true) ∨ (mode = some 2 ∧ s.lcd.stat.getLsbD 5 = true)
  then 0x02 else 0

/-- The display controller's registers after a step of the mode machine: the mode, the line (`none`: not
updated), the cycle it is due next, the coincidence bit, and STAT's enable bits (R605, R606). -/
structure LcdMoved (s t : State) (newMode : BitVec 2) (newLine : Option Byte) (wait : Nat) : Prop where
  mode    : t.lcd.mode = newMode
  line    : t.lcd.ly = newLine.getD s.lcd.ly
  due     : t.lcd.next = some (s.cycle + wait)
  equal   : ∀ n, newLine = some n → t.lcd.stat.getLsbD 2 = decide (n = s.lcd.lyc)
  keep    : newLine = none → t.lcd.stat.getLsbD 2 = s.lcd.stat.getLsbD 2
  enables : t.lcd.stat &&& 0xF8 = s.lcd.stat &&& 0xF8

/-- What a step of the display controller makes of the frame being built (`rows`), the window's row counter and
the published frame. Besides these and what `LcdMoved` and IF say, nothing changes but memory and the
quick-copy's index, of which `CopyStep` says what becomes. -/
structure LcdFrame (s t : State) (rows : List Row) (winY : Nat) (image : List Row) : Prop where
  rows  : t.lcd.lineBuf = rows
  winY  : t.lcd.winY = winY
  image : t.lcd.image = image
  rest  : t = { s with
    mem := t.mem, iflag := t.iflag
    lcd := { s.lcd with
      stat := t.lcd.stat, ly := t.lcd.ly, next := t.lcd.next, winY := t.lcd.winY, lineBuf := t.lcd.lineBuf,
      image := t.lcd.image, dmaIdx := t.lcd.dmaIdx } }

/-- The quick-copy's part of a step of the display controller from `s` to `t` (R601, R660): below index 160 one
byte, from the bus to OAM, and the index one higher; from 160 on nothing. The byte is read after the mode
machine has acted, so from `t` less the copy's own two changes; no other byte of memory changes. -/
structure CopyStep (s t : State) : Prop where
  byte  : s.lcd.dmaIdx < 160 → t.mem.read (0xFE00 + s.lcd.dmaIdx)
    = busRead { t with mem := s.mem, lcd := { t.lcd with dmaIdx := s.lcd.dmaIdx } }
        (BitVec.ofNat 16 (s.lcd.dmaSrc.toNat + s.lcd.dmaIdx))
  index : s.lcd.dmaIdx < 160 → t.lcd.dmaIdx = s.lcd.dmaIdx + 1
  other : s.lcd.dmaIdx < 160 → ∀ a : Nat, a ≠ 0xFE00 + s.lcd.dmaIdx → t.mem.read a = s.mem.read a
  done  : 160 ≤ s.lcd.dmaIdx → t.lcd.dmaIdx = s.lcd.dmaIdx ∧ t.mem = s.mem

/-- The display controller is due to leave the last line of the vertical blank for line 0 of a new frame
(R601, R626). -/
def FrameDue (s : State) : Prop := s.lcd.next = some s.cycle ∧ s.lcd.mode = 1 ∧ s.lcd.ly = 153

/-- One cycle of the display controller alone. -/
def lcdClock (s : State) : State := { lcdStep s with cycle := s.cycle + 1 }

/-! ### Pixels, as numbers read from the bytes of VRAM and OAM -/

/-- Bus address of row `r` of tile `t`: 16 bytes a tile from 0x8000, or the index as a signed byte relative to
0x9000 (R632). -/
def tileLaw (t : Byte) (r : Nat) (unsignedArea : Bool) : Nat :=
  if unsignedArea then 0x8000 + 16 * t.toNat + 2 * r else (0x9000 + 16 * t.toInt + 2 * r).toNat

/-- The raw colour of column `col` (0 = left) of the tile row at `addr`: the low plane first, bit 7 leftmost
(R632). -/
def rawLaw (s : State) (addr col : Nat) : Nat :=
  2 * ((s.mem.read (addr + 1)).toNat / 2 ^ (7 - col) % 2) + (s.mem.read addr).toNat / 2 ^ (7 - col) % 2

/-- The colour of raw colour `k` in a palette register: two bits for each of four entries (R633). -/
def paletteLaw (p : Byte) (k : Nat) : Nat := p.toNat / 4 ^ k % 4

/-- A pixel that shows raw colour `raw` through palette `p`: opaque exactly where the raw colour is not 0
(R631, R651). -/
def Shows (q : Pixel) (p : Byte) (raw : Nat) : Prop :=
  q.colour.toNat = paletteLaw p raw ∧ (q.solid = true ↔ raw ≠ 0)

/-- Colour 0, not opaque. -/
def Clear (q : Pixel) : Prop := q.colour = 0 ∧ q.solid = false

/-- The byte of a 32 by 32 tile map at 0x9C00 or 0x9800 for the pixel (`px`, `py`) of its plane. -/
def mapLaw (s : State) (high : Bool) (px py : Nat) : Byte :=
  s.mem.read ((if high then 0x9C00 else 0x9800) + 32 * (py / 8) + px / 8)

/-- `Bg(L, x)` (R631). -/
def BackgroundLaw (s : State) (line x : Nat) (q : Pixel) : Prop :=
  let px := (x + s.lcd.scx.toNat) % 256
  let py := (line + s.lcd.scy.toNat) % 256
  (s.lcd.lcdc.getLsbD 0 = false → Clear q)
    ∧ (s.lcd.lcdc.getLsbD 0 = true →
      Shows q s.lcd.bgp
        (rawLaw s (tileLaw (mapLaw s (s.lcd.lcdc.getLsbD 3) px py) (py % 8) (s.lcd.lcdc.getLsbD 4)) (px % 8)))

/-- `Win(x)` (R640): the row counter is the plane's row, and the plane starts at the window's left edge. -/
def WindowLaw (s : State) (x : Nat) (c : Colour) : Prop :=
  let px := x - (s.lcd.wx.toNat - 7)
  c.toNat = paletteLaw s.lcd.bgp
    (rawLaw s (tileLaw (mapLaw s (s.lcd.lcdc.getLsbD 6) px s.lcd.winY) (s.lcd.winY % 8) (s.lcd.lcdc.getLsbD 4))
      (px % 8))

/-- `Spr(k, L, x)` for a sprite that meets the line (R651): its column counts from X - 8 and its row from Y - 16;
bit 5 and bit 6 of the attribute flip them, bit 4 chooses the palette; a 16-line sprite is the even tile over
the odd one. -/
def SpriteLaw (s : State) (k line x : Nat) (q : Pixel) : Prop :=
  let top := (s.mem.read (0xFE00 + 4 * k)).toNat
  let left := (s.mem.read (0xFE00 + 4 * k + 1)).toNat
  let tile := (s.mem.read (0xFE00 + 4 * k + 2)).toNat
  let attr := s.mem.read (0xFE00 + 4 * k + 3)
  let tall := s.lcd.lcdc.getLsbD 2
  let row := if attr.getLsbD 6 then (if tall then 15 else 7) - (line + 16 - top) else line + 16 - top
  let col := if attr.getLsbD 5 then 7 - (x + 8 - left) else x + 8 - left
  let name := if tall then 2 * (tile / 2) + row / 8 else tile
  (x + 8 < left ∨ left + 7 < x + 8 → Clear q)
    ∧ (left ≤ x + 8 → x + 8 ≤ left + 7 →
      Shows q (if attr.getLsbD 4 then s.lcd.obp1 else s.lcd.obp0) (rawLaw s (0x8000 + 16 * name + 2 * (row % 8)) col))

end Sys2Proof.Machine
end

