-- ==== Sys2Proof/Certificates/Slice0/Obligations.lean ====
section
/-! DEFINITION. The statements for the provers: each is a `Prop` about the machine, its docstring the rules it
rests on. OBLIGATIONS.json lists them. -/

section

open Sys2Proof Sys2Proof.Machine

/-! ## Encoding -/

/-- O1. Words of R170 to R174, written out from the tables, decode to the instruction they stand for. -/
def Obligations.SpecWordsDecode : Prop :=
  decode [0x47, 0x99] = .ok .ldBA [0x99] ∧ decode [0x3E, 0x0B] = .ok (.ldAN8 0x0B) []
    ∧ decode [0x7E] = .ok .ldAAtHl [] ∧ decode [0x74] = .ok .ldAtHlH [] ∧ decode [0x36, 0xFF] = .ok (.ldAtHlN8 0xFF) []
    ∧ decode [0xFA, 0x44, 0xFF] = .ok (.ldAAtA16 0xFF44) [] ∧ decode [0xE0, 0x07] = .ok (.ldhAtA8A 0x07) []
    ∧ decode [0x2A] = .ok .ldAAtHlInc [] ∧ decode [0x21, 0x00, 0xC0] = .ok (.ldHlN16 0xC000) []
    ∧ decode [0x08, 0x00, 0xC0] = .ok (.ldAtA16Sp 0xC000) [] ∧ decode [0xF8, 0x08] = .ok (.ldHlSpE8 0x08) []
    ∧ decode [0xF5] = .ok .pushAf [] ∧ decode [0xC1] = .ok .popBc []
    ∧ decode [0x8B] = .ok .adcAE [] ∧ decode [0x96] = .ok .subAtHl [] ∧ decode [0xEE, 0x0F] = .ok (.xorN8 0x0F) []
    ∧ decode [0x2C] = .ok .incL [] ∧ decode [0x35] = .ok .decAtHl [] ∧ decode [0x27] = .ok .daa []
    ∧ decode [0x29] = .ok .addHlHl [] ∧ decode [0x3B] = .ok .decSp [] ∧ decode [0xE8, 0xFE] = .ok (.addSpE8 0xFE) []
    ∧ decode [0x17] = .ok .rla [] ∧ decode [0xCB, 0x37] = .ok .swapA [] ∧ decode [0xCB, 0x7E] = .ok .bit7AtHl []
    ∧ decode [0xCB, 0x81] = .ok .res0C [] ∧ decode [0xCB, 0xCB] = .ok .set1E []
    ∧ decode [0xC2, 0x00, 0xC0] = .ok (.jpNzA16 0xC000) [] ∧ decode [0x38, 0xFC] = .ok (.jrCE8 0xFC) []
    ∧ decode [0xCD, 0x0A, 0x00] = .ok (.callA16 0x000A) [] ∧ decode [0xD9] = .ok .reti []
    ∧ decode [0xFF] = .ok .rst38 [] ∧ decode [0x76] = .ok .halt [] ∧ decode [0xFB] = .ok .ei []
    ∧ decode [0x10] = .ok .stop [] ∧ decode [0xDD] = .ok .unusedDD []

/-- O2. The decoder (field patterns of R161 to R174) inverts the encoder (grids of R175 and R176). -/
def Obligations.DecodeEncode : Prop :=
  ∀ (i : Instr) (rest : List Byte), i.wellFormed = true → decode (encode i ++ rest) = .ok i rest

/-- O3. The other direction of `DecodeEncode`, totality (R169, R174, R180), and the lengths of R177. -/
def Obligations.EncodeDecode : Prop :=
  (∀ (bytes rest : List Byte) (i : Instr), decode bytes = .ok i rest → i.wellFormed = true ∧ bytes = encode i ++ rest)
    ∧ ∀ (op b1 b2 : Byte) (more : List Byte), ∃ i rest,
        decode (op :: b1 :: b2 :: more) = .ok i rest ∧ (encode i).length = opcodeLength op

/-! ## The clock step and the processor step -/

/-- O4. R510, R533 and R540 around `exec`. -/
def Obligations.StepRunsDecoded : Prop :=
  ∀ (s : State) (i : Instr) (rest : List Byte), s.fault = none → Executes (beforeCpu s) →
    decode (bytesFrom (beforeCpu s) 3 (beforeCpu s).pc.toNat) = .ok i rest →
    i.wellFormed = true ∧ ∃ t, exec i (beforeCpu s) = .next t
      ∧ step s = .next (match t.fault with
          | none => { t with cycle := t.cycle + 1 }
          | some f => { beforeCpu s with fault := some f })

/-- O5. R169 and R533 from the bytes on the bus: fetch reads the addresses PC, PC + 1, PC + 2 (R166, R167). -/
def Obligations.StepRunsEncoded : Prop :=
  ∀ (s : State) (i : Instr), s.fault = none → Executes (beforeCpu s) → i.wellFormed = true →
    (∀ k b, (encode i)[k]? = some b →
      (beforeCpu s).pc.toNat + k < 65536 ∧ busRead (beforeCpu s) ((beforeCpu s).pc + BitVec.ofNat 16 k) = b) →
    ∃ t, exec i (beforeCpu s) = .next t
      ∧ step s = .next (match t.fault with
          | none => { t with cycle := t.cycle + 1 }
          | some f => { beforeCpu s with fault := some f })

/-- O6. R167: operand addresses do not wrap; the first address above 0xFFFF is 0x10000. -/
def Obligations.OperandFetchFaults : Prop :=
  ∀ s : State, s.fault = none → Executes (beforeCpu s) →
    65536 - opcodeLength (busRead (beforeCpu s) (beforeCpu s).pc) < (beforeCpu s).pc.toNat →
    step s = .next { beforeCpu s with fault := some (.addressRange 0x10000) }

/-- O7. R532, with the conditions of R530 and R531 and the priority of R534(a). The `haltWake` premise, and that the
field is kept, are the model's choice (notes/assumptions/5.md, DESIGN CHOICE). -/
def Obligations.InterruptDispatch : Prop :=
  ∀ (s : State) (i : Fin 5), s.fault = none →
    ((beforeCpu s).ie &&& (beforeCpu s).iflag).getLsbD i.val = true →
    (∀ j < i.val, ((beforeCpu s).ie &&& (beforeCpu s).iflag).getLsbD j = false) →
    (((beforeCpu s).cpuNext = some (beforeCpu s).cycle ∧ (beforeCpu s).ime = true)
      ∨ ((beforeCpu s).cpuNext = none ∧ ((beforeCpu s).ime = true ∨ (beforeCpu s).haltWake = true))) →
    ((beforeCpu s).sp = 0x0001 → step s = .next { beforeCpu s with fault := some (.addressRange 0x10000) })
      ∧ ((beforeCpu s).sp ≠ 0x0001 → ∃ t, step s = .next t
          ∧ t.ime = false ∧ t.pc = 0x0040 + BitVec.ofNat 16 (8 * i.val) ∧ t.sp = (beforeCpu s).sp - 2
          ∧ t.regs = (beforeCpu s).regs ∧ t.cpuNext = some ((beforeCpu s).cycle + 5)
          ∧ t.cycle = (beforeCpu s).cycle + 1 ∧ t.fault = none ∧ t.haltWake = (beforeCpu s).haltWake
          ∧ StoredWord { beforeCpu s with iflag := (beforeCpu s).iflag &&& ~~~(1#8 <<< i.val) } t
              ((beforeCpu s).sp - 2) (beforeCpu s).pc)

/-- O8. R491, R530 and R531; the wake-up parameter is the spec's HALT_WAKE_SERVICES_WITHOUT_IME (notes/assumptions/5.md). -/
def Obligations.HaltAndWake : Prop :=
  (∀ s : State, exec .halt s = .next { s with pc := s.pc + 1, cpuNext := none })
    ∧ (∀ s : State, s.fault = none →
        ((beforeCpu s).cpuNext = none ∧ (beforeCpu s).ie &&& (beforeCpu s).iflag &&& 0x1F = 0)
          ∨ (∃ n, (beforeCpu s).cpuNext = some n ∧ n ≠ (beforeCpu s).cycle) →
        step s = .next { beforeCpu s with cycle := s.cycle + 1 })
    ∧ ∀ (s : State) (i : Instr) (rest : List Byte), s.fault = none → (beforeCpu s).cpuNext = none →
        (beforeCpu s).ie &&& (beforeCpu s).iflag &&& 0x1F ≠ 0 →
        (beforeCpu s).ime = false → (beforeCpu s).haltWake = false →
        decode (bytesFrom (beforeCpu s) 3 (beforeCpu s).pc.toNat) = .ok i rest →
        ∃ t, exec i { beforeCpu s with cpuNext := some s.cycle } = .next t
          ∧ step s = .next (match t.fault with
              | none => { t with cycle := t.cycle + 1 }
              | some f => { beforeCpu s with fault := some f })

/-- O9. R540 (a) to (e), for every instruction and every dispatch. -/
def Obligations.FaultLeavesState : Prop :=
  ∀ (s t : State) (f : Fault), s.fault = none → step s = .next t → t.fault = some f →
    t = { beforeCpu s with fault := some f } ∧ t.cycle = s.cycle ∧ step t = .next t

/-- O10. R36 and R522 over all instructions (dispatch is `InterruptDispatch`). -/
def Obligations.OnlyThreeWriteIme : Prop :=
  ∀ (i : Instr) (s t : State), exec i s = .next t → t.ime ≠ s.ime → i = .ei ∨ i = .di ∨ i = .reti

/-- O11. The last sentence of R33 and the closed list of R230, over all instructions. -/
def Obligations.OnlyListedWriteFlags : Prop :=
  ∀ (i : Instr) (s t : State), exec i s = .next t → t.regs.f ≠ s.regs.f → WritesFlags i

/-- O12. R168 and the first row of R730. -/
def Obligations.CostOneToSix : Prop :=
  ∀ (i : Instr) (s t : State), s.fault = none → exec i s = .next t → t.fault = none →
    t.cycle = s.cycle ∧ ((i = .halt ∧ t.cpuNext = none) ∨
      (i ≠ .halt ∧ ∃ k, 1 ≤ k ∧ k ≤ 6 ∧ t.cpuNext = some (s.cycle + k)))

/-! ## Invariants that every step keeps -/

/-- O13. R33: "no instruction can make it non-zero". -/
def Obligations.FlagsInvKept : Prop :=
  ∀ s t : State, FlagsInv s → step s = .next t → FlagsInv t

/-- O14. The canonical form is the model's (notes/assumptions/7.md, 8.md): no rule of the spec. -/
def Obligations.MemoryInvKept : Prop :=
  ∀ s t : State, MemoryInv s → step s = .next t → MemoryInv t

/-- O15. Three invariants, each kept on its own: R554, R77, R530. -/
def Obligations.CountersInvKept : Prop :=
  (∀ s t : State, TimerInv s → step s = .next t → TimerInv t)
    ∧ (∀ s t : State, DmaInv s → step s = .next t → DmaInv t)
    ∧ (∀ s t : State, CpuInv s → step s = .next t → CpuInv t)

/-- O16. R601 (the six reachable pairs and its invariant), R72, R73, R75, R76, R610. The bound on `winY`, the rows
composed and so up to 144, is the model's (notes/assumptions/10.md, DEDUCED), where R74 gives 0..143. -/
def Obligations.DisplayInvKept : Prop :=
  ∀ s t : State, DisplayInv s → step s = .next t → DisplayInv t

/-- O17. R90 meets the invariants. The `MemoryInv` clause (the canonical form, and what Ext holds, which R90 does not
name) is the model's choice (notes/assumptions/7.md and 8.md, DESIGN CHOICE). -/
def Obligations.InvariantsAtReset : Prop :=
  FlagsInv State.reset ∧ MemoryInv State.reset ∧ TimerInv State.reset ∧ DmaInv State.reset ∧ CpuInv State.reset
    ∧ DisplayInv State.reset

/-! ## Reset -/

/-- O18. The table of R90. (The fields of the model's own are not in it.) -/
def Obligations.ResetValues : Prop :=
  State.reset.cycle = 0 ∧ State.reset.fault = none ∧ State.reset.pc = 0x0000 ∧ State.reset.cpuNext = some 0
    ∧ State.reset.ime = false ∧ State.reset.ie = 0 ∧ State.reset.iflag = 0 ∧ State.reset.sp = 0x0000
    ∧ (∀ r, State.reset.reg8 r = 0) ∧ State.reset.regs.f = 0
    ∧ (∀ a : Word, 0xFF80 ≤ a.toNat ∨ (0x8000 ≤ a.toNat ∧ a.toNat < 0xA000)
        ∨ (0xC000 ≤ a.toNat ∧ a.toNat < 0xFEA0) → busRead State.reset a = 0)
    ∧ State.reset.timer.tDiv = 0 ∧ State.reset.timer.tima = 0 ∧ State.reset.timer.tma = 0 ∧ State.reset.timer.tac = 0
    ∧ (∀ a : Word, 0xFF40 ≤ a.toNat ∧ a.toNat ≤ 0xFF4B → busRead State.reset a = 0)
    ∧ State.reset.lcd.next = none ∧ State.reset.lcd.winY = 0 ∧ State.reset.lcd.lineBuf = []
    ∧ State.reset.lcd.image.length = 144
    ∧ (∀ r ∈ State.reset.lcd.image, r.length = 160 ∧ ∀ c ∈ r, c = 0)
    ∧ State.reset.lcd.dmaSrc = 0 ∧ State.reset.lcd.dmaIdx = 160

/-! ## 8-bit loads -/

/-- O19. R250, R251, R252. -/
def Obligations.LoadRegister : Prop :=
  ∀ (r : Reg8) (x : Src8) (s : State), ∃ t, exec (.load r x) s = .next t
    ∧ t.reg8 r = x.value s ∧ t.regs.f = s.regs.f ∧ RegFrame s t [r] (s.pc + x.len) x.cycles

/-- O20. R255, R256, R259, R261, R263. -/
def Obligations.LoadAccumulator : Prop :=
  ∀ (p : Pointer) (s : State), ∃ t, exec (.loadA p) s = .next t
    ∧ t.reg8 .a = busRead s (p.addr s) ∧ t.regs.f = s.regs.f ∧ RegFrame s t [.a] (s.pc + p.len) p.cycles

/-- O21. R265, R266. -/
def Obligations.LoadAccumulatorStepping : Prop :=
  ∀ s : State,
    (∃ t, exec .ldAAtHlInc s = .next t ∧ t.reg8 .a = busRead s s.hl ∧ t.hl = s.hl + 1 ∧ t.regs.f = s.regs.f
      ∧ RegFrame s t [.a, .h, .l] (s.pc + 1) 2)
    ∧ ∃ t, exec .ldAAtHlDec s = .next t ∧ t.reg8 .a = busRead s s.hl ∧ t.hl = s.hl - 1 ∧ t.regs.f = s.regs.f
      ∧ RegFrame s t [.a, .h, .l] (s.pc + 1) 2

/-- O22. R253, R254. -/
def Obligations.StoreAtHl : Prop :=
  ∀ s : State,
    (∀ r : Reg8, ∃ t, exec (.ldHlReg r) s = .next t ∧ t.regs.f = s.regs.f
      ∧ StoreFrame s t [] (s.pc + 1) 2 s.hl (s.reg8 r))
    ∧ ∀ n : Byte, ∃ t, exec (.ldAtHlN8 n) s = .next t ∧ t.regs.f = s.regs.f
      ∧ StoreFrame s t [] (s.pc + 2) 3 s.hl n

/-- O23. R257, R258, R260, R262, R264. -/
def Obligations.StoreAccumulator : Prop :=
  ∀ (p : Pointer) (s : State), ∃ t, exec (.storeA p) s = .next t ∧ t.regs.f = s.regs.f
    ∧ StoreFrame s t [] (s.pc + p.len) p.cycles (p.addr s) (s.reg8 .a)

/-- O24. R267, R268. -/
def Obligations.StoreAccumulatorStepping : Prop :=
  ∀ s : State,
    (∃ t, exec .ldAtHlIncA s = .next t ∧ t.hl = s.hl + 1 ∧ t.regs.f = s.regs.f
      ∧ StoreFrame s t [.h, .l] (s.pc + 1) 2 s.hl (s.reg8 .a))
    ∧ ∃ t, exec .ldAtHlDecA s = .next t ∧ t.hl = s.hl - 1 ∧ t.regs.f = s.regs.f
      ∧ StoreFrame s t [.h, .l] (s.pc + 1) 2 s.hl (s.reg8 .a)

/-! ## 16-bit loads and the stack -/

/-- O25. R302, R304. -/
def Obligations.LoadPair : Prop :=
  ∀ s : State,
    (∀ (p : Pair) (n : Word), ∃ t, exec (.ldPairN16 p n) s = .next t ∧ t.pair p = n ∧ t.regs.f = s.regs.f
      ∧ PairFrame s t p (s.pc + 3) 3)
    ∧ ∃ t, exec .ldSpHl s = .next t ∧ t.sp = s.hl ∧ t.regs.f = s.regs.f ∧ PairFrame s t .sp (s.pc + 1) 2

/-- O26. R303, R107, R120. -/
def Obligations.StoreStackPointer : Prop :=
  ∀ (n : Word) (s : State),
    (n ≠ 0xFFFF → ∃ t, exec (.ldAtA16Sp n) s = .next t ∧ t.sp = s.sp ∧ StoreWordFrame s t (s.pc + 3) 5 n s.sp)
    ∧ (n = 0xFFFF → exec (.ldAtA16Sp n) s = .next (addressFaulted s))

/-- O27. R305, R383, R204. -/
def Obligations.StackPointerSums : Prop :=
  ∀ (e : Byte) (s : State),
    (∃ t, exec (.ldHlSpE8 e) s = .next t ∧ t.hl = s.sp + e.signExtend 16
      ∧ t.regs.f = flagByte false false (decide (s.sp.toNat % 16 + e.toNat % 16 > 15))
          (decide (s.sp.toNat % 256 + e.toNat > 255))
      ∧ PairFrame s t .hl (s.pc + 2) 3)
    ∧ ∃ t, exec (.addSpE8 e) s = .next t ∧ t.sp = s.sp + e.signExtend 16
      ∧ t.regs.f = flagByte false false (decide (s.sp.toNat % 16 + e.toNat % 16 > 15))
          (decide (s.sp.toNat % 256 + e.toNat > 255))
      ∧ PairFrame s t .sp (s.pc + 2) 4

/-- O28. R306, R300. -/
def Obligations.PushPair : Prop :=
  ∀ (q : StackPair) (s : State),
    (s.sp ≠ 0x0001 → ∃ t, exec (.push q) s = .next t ∧ t.sp = s.sp - 2
      ∧ StoreWordFrame s t (s.pc + 1) 4 (s.sp - 2) (s.stackPair q))
    ∧ (s.sp = 0x0001 → exec (.push q) s = .next (addressFaulted s))

/-- O29. R307, R301. -/
def Obligations.PopPair : Prop :=
  ∀ (q : StackPair) (s : State),
    (s.sp ≠ 0xFFFF → ∃ t, exec (.pop q) s = .next t ∧ t.sp = s.sp + 2
      ∧ t.stackPair q = (if q = .af then make16 (busRead s (s.sp + 1)) (busRead s s.sp) &&& 0xFFF0
          else make16 (busRead s (s.sp + 1)) (busRead s s.sp))
      ∧ (∀ p, p ≠ q → t.stackPair p = s.stackPair p)
      ∧ t.ime = s.ime ∧ EndsAt s t (s.pc + 1) 3 ∧ KeptBus s t)
    ∧ (s.sp = 0xFFFF → exec (.pop q) s = .next (addressFaulted s))

/-! ## 8-bit arithmetic and logic -/

/-- O30. R331 to R336, R202, R230. -/
def Obligations.AddAndAddWithCarry : Prop :=
  ∀ (carry : Bool) (x : Src8) (s : State),
    let l := (s.reg8 .a).toNat
    let r := (x.value s).toNat
    let c0 := if carry then (flagC s.regs.f).toNat else 0
    ∃ t, exec (.alu (if carry then .adc else .add) x) s = .next t
      ∧ t.reg8 .a = BitVec.ofNat 8 (l + r + c0)
      ∧ t.regs.f = flagByte (decide ((l + r + c0) % 256 = 0)) false (decide (l % 16 + r % 16 + c0 > 15))
          (decide (l + r + c0 > 255))
      ∧ RegFrame s t [.a] (s.pc + x.len) x.cycles

/-- O31. R337 to R342, R352 to R354, R203, R230. -/
def Obligations.SubtractAndCompare : Prop :=
  ∀ (x : Src8) (s : State),
    let l := (s.reg8 .a).toNat
    let r := (x.value s).toNat
    (∀ borrow : Bool,
      let b0 := if borrow then (flagC s.regs.f).toNat else 0
      ∃ t, exec (.alu (if borrow then .sbc else .sub) x) s = .next t
        ∧ t.reg8 .a = BitVec.ofInt 8 ((l : Int) - r - b0)
        ∧ t.regs.f = flagByte (decide (((l : Int) - r - b0) % 256 = 0)) true (decide (l % 16 < r % 16 + b0))
            (decide (l < r + b0))
        ∧ RegFrame s t [.a] (s.pc + x.len) x.cycles)
    ∧ ∃ t, exec (.alu .cp x) s = .next t
        ∧ t.regs.f = flagByte (decide (l = r)) true (decide (l % 16 < r % 16)) (decide (l < r))
        ∧ RegFrame s t [] (s.pc + x.len) x.cycles

/-- O32. R343 to R351, R206, R230. -/
def Obligations.LogicOperations : Prop :=
  ∀ (x : Src8) (s : State),
    (∃ t, exec (.alu .and x) s = .next t ∧ t.reg8 .a = s.reg8 .a &&& x.value s
      ∧ t.regs.f = flagByte (decide (s.reg8 .a &&& x.value s = 0)) false true false
      ∧ RegFrame s t [.a] (s.pc + x.len) x.cycles)
    ∧ (∃ t, exec (.alu .xor x) s = .next t ∧ t.reg8 .a = s.reg8 .a ^^^ x.value s
      ∧ t.regs.f = flagByte (decide (s.reg8 .a ^^^ x.value s = 0)) false false false
      ∧ RegFrame s t [.a] (s.pc + x.len) x.cycles)
    ∧ ∃ t, exec (.alu .or x) s = .next t ∧ t.reg8 .a = s.reg8 .a ||| x.value s
      ∧ t.regs.f = flagByte (decide (s.reg8 .a ||| x.value s = 0)) false false false
      ∧ RegFrame s t [.a] (s.pc + x.len) x.cycles

/-- O33. R355 to R358, R230. -/
def Obligations.IncrementDecrement : Prop :=
  ∀ s : State,
    (∀ r : Reg8, ∃ t, exec (.incReg r) s = .next t ∧ t.reg8 r = s.reg8 r + 1
      ∧ t.regs.f = flagByte (decide (s.reg8 r = 0xFF)) false (decide ((s.reg8 r).toNat % 16 = 15)) (flagC s.regs.f)
      ∧ RegFrame s t [r] (s.pc + 1) 1)
    ∧ (∀ r : Reg8, ∃ t, exec (.decReg r) s = .next t ∧ t.reg8 r = s.reg8 r - 1
      ∧ t.regs.f = flagByte (decide (s.reg8 r = 0x01)) true (decide ((s.reg8 r).toNat % 16 = 0)) (flagC s.regs.f)
      ∧ RegFrame s t [r] (s.pc + 1) 1)
    ∧ (∃ t, exec .incAtHl s = .next t
      ∧ t.regs.f = flagByte (decide (busRead s s.hl = 0xFF)) false (decide ((busRead s s.hl).toNat % 16 = 15))
          (flagC s.regs.f)
      ∧ StoreFrame s t [] (s.pc + 1) 3 s.hl (busRead s s.hl + 1))
    ∧ ∃ t, exec .decAtHl s = .next t
      ∧ t.regs.f = flagByte (decide (busRead s s.hl = 0x01)) true (decide ((busRead s s.hl).toNat % 16 = 0))
          (flagC s.regs.f)
      ∧ StoreFrame s t [] (s.pc + 1) 3 s.hl (busRead s s.hl - 1)

/-- O34. R359, R210, R230. -/
def Obligations.DecimalAdjust : Prop :=
  ∀ s : State,
    let a := s.reg8 .a
    let fixL : Prop := flagH s.regs.f = true ∨ (flagN s.regs.f = false ∧ a.toNat % 16 > 9)
    let fixH : Prop := flagC s.regs.f = true ∨ (flagN s.regs.f = false ∧ a.toNat > 0x99)
    ∃ (t : State) (fix : Byte), exec .daa s = .next t
      ∧ (fixH → fixL → fix = 0x66) ∧ (fixH → ¬fixL → fix = 0x60) ∧ (¬fixH → fixL → fix = 0x06)
      ∧ (¬fixH → ¬fixL → fix = 0x00)
      ∧ t.reg8 .a = (if flagN s.regs.f = true then a - fix else a + fix)
      ∧ (flagZ t.regs.f = true ↔ t.reg8 .a = 0) ∧ flagN t.regs.f = flagN s.regs.f ∧ flagH t.regs.f = false
      ∧ (flagC t.regs.f = true ↔ fixH) ∧ t.regs.f &&& 0x0F = 0
      ∧ RegFrame s t [.a] (s.pc + 1) 1

/-- O35. R360 to R362, R230. -/
def Obligations.ComplementAndCarry : Prop :=
  ∀ s : State,
    (∃ t, exec .cpl s = .next t ∧ t.reg8 .a = ~~~(s.reg8 .a)
      ∧ t.regs.f = flagByte (flagZ s.regs.f) true true (flagC s.regs.f) ∧ RegFrame s t [.a] (s.pc + 1) 1)
    ∧ (∃ t, exec .scf s = .next t
      ∧ t.regs.f = flagByte (flagZ s.regs.f) false false true ∧ RegFrame s t [] (s.pc + 1) 1)
    ∧ ∃ t, exec .ccf s = .next t
      ∧ t.regs.f = flagByte (flagZ s.regs.f) false false (!flagC s.regs.f) ∧ RegFrame s t [] (s.pc + 1) 1

/-! ## 16-bit arithmetic -/

/-- O36. R380, R205, R230. -/
def Obligations.AddToHl : Prop :=
  ∀ (p : Pair) (s : State), ∃ t, exec (.addHlPair p) s = .next t ∧ t.hl = s.hl + s.pair p
    ∧ t.regs.f = flagByte (flagZ s.regs.f) false (decide (s.hl.toNat % 4096 + (s.pair p).toNat % 4096 > 0x0FFF))
        (decide (s.hl.toNat + (s.pair p).toNat > 0xFFFF))
    ∧ PairFrame s t .hl (s.pc + 1) 2

/-- O37. R381, R382. -/
def Obligations.IncrementDecrementPair : Prop :=
  ∀ (p : Pair) (s : State),
    (∃ t, exec (.incPair p) s = .next t ∧ t.pair p = s.pair p + 1 ∧ t.regs.f = s.regs.f ∧ PairFrame s t p (s.pc + 1) 2)
    ∧ ∃ t, exec (.decPair p) s = .next t ∧ t.pair p = s.pair p - 1 ∧ t.regs.f = s.regs.f
      ∧ PairFrame s t p (s.pc + 1) 2

/-! ## Rotates, shifts and bits -/

/-- O38. R400 to R403, R207, R230. -/
def Obligations.RotateAccumulator : Prop :=
  ∀ (left carry : Bool) (s : State),
    let op : RotOp := if left then (if carry then .rl else .rlc) else (if carry then .rr else .rrc)
    let out := rotLaw op (s.reg8 .a) (flagC s.regs.f)
    ∃ t, exec (.rotA left carry) s = .next t ∧ t.reg8 .a = out.1 ∧ t.regs.f = flagByte false false false out.2
      ∧ RegFrame s t [.a] (s.pc + 1) 1

/-- O39. R404 to R419, R207, R208, R230; R426: the cost counts the prefix byte. -/
def Obligations.RotateAndShift : Prop :=
  ∀ (op : RotOp) (s : State),
    (∀ r : Reg8, ∃ t, exec (.rotReg op r) s = .next t
      ∧ t.reg8 r = (rotLaw op (s.reg8 r) (flagC s.regs.f)).1
      ∧ t.regs.f = flagByte (decide ((rotLaw op (s.reg8 r) (flagC s.regs.f)).1 = 0)) false false
          (rotLaw op (s.reg8 r) (flagC s.regs.f)).2
      ∧ RegFrame s t [r] (s.pc + 2) 2)
    ∧ ∃ t, exec (.rotHl op) s = .next t
      ∧ t.regs.f = flagByte (decide ((rotLaw op (busRead s s.hl) (flagC s.regs.f)).1 = 0)) false false
          (rotLaw op (busRead s s.hl) (flagC s.regs.f)).2
      ∧ StoreFrame s t [] (s.pc + 2) 4 s.hl (rotLaw op (busRead s s.hl) (flagC s.regs.f)).1

/-- O40. R420, R421, R209, R230. -/
def Obligations.TestBit : Prop :=
  ∀ (b : Fin 8) (s : State),
    (∀ r : Reg8, ∃ t, exec (.bitReg b r) s = .next t
      ∧ t.regs.f = flagByte (!(s.reg8 r).getLsbD b.val) false true (flagC s.regs.f) ∧ RegFrame s t [] (s.pc + 2) 2)
    ∧ ∃ t, exec (.bitHl b) s = .next t
      ∧ t.regs.f = flagByte (!(busRead s s.hl).getLsbD b.val) false true (flagC s.regs.f)
      ∧ RegFrame s t [] (s.pc + 2) 3

/-- O41. R422 to R425. -/
def Obligations.ResetAndSetBit : Prop :=
  ∀ (b : Fin 8) (s : State),
    (∀ r : Reg8,
      (∃ t, exec (.resReg b r) s = .next t ∧ t.reg8 r = s.reg8 r &&& ~~~(1#8 <<< b.val) ∧ t.regs.f = s.regs.f
        ∧ RegFrame s t [r] (s.pc + 2) 2)
      ∧ ∃ t, exec (.setReg b r) s = .next t ∧ t.reg8 r = s.reg8 r ||| (1#8 <<< b.val) ∧ t.regs.f = s.regs.f
        ∧ RegFrame s t [r] (s.pc + 2) 2)
    ∧ (∃ t, exec (.resHl b) s = .next t ∧ t.regs.f = s.regs.f
      ∧ StoreFrame s t [] (s.pc + 2) 4 s.hl (busRead s s.hl &&& ~~~(1#8 <<< b.val)))
    ∧ ∃ t, exec (.setHl b) s = .next t ∧ t.regs.f = s.regs.f
      ∧ StoreFrame s t [] (s.pc + 2) 4 s.hl (busRead s s.hl ||| (1#8 <<< b.val))

/-- O42. R495, R174; the row is a constructor that no decoded word yields (notes/assumptions/12.md). -/
def Obligations.PrefixRow : Prop :=
  ∀ (op2 : Byte) (s : State), ∃ i t, decode [0xCB, op2] = .ok i [] ∧ i.wellFormed = true
    ∧ exec i s = .next t ∧ exec (.prefixCb op2) s = .next t ∧ t.fault = s.fault ∧ t.pc = s.pc + 2

/-! ## Control transfers -/

/-- O43. R450 to R455. -/
def Obligations.Jumps : Prop :=
  ∀ s : State,
    (∀ n : Word, ∃ t, exec (.jpA16 n) s = .next t ∧ t.regs.f = s.regs.f ∧ RegFrame s t [] n 4)
    ∧ (∀ (cc : Cond) (n : Word), ∃ t, exec (.jpCond cc n) s = .next t ∧ t.regs.f = s.regs.f
      ∧ if condLaw cc s.regs.f = true then RegFrame s t [] n 4 else RegFrame s t [] (s.pc + 3) 3)
    ∧ (∃ t, exec .jpHl s = .next t ∧ t.regs.f = s.regs.f ∧ RegFrame s t [] s.hl 1)
    ∧ (∀ e : Byte, ∃ t, exec (.jrE8 e) s = .next t ∧ t.regs.f = s.regs.f
      ∧ RegFrame s t [] (s.pc + 2 + e.signExtend 16) 3)
    ∧ ∀ (cc : Cond) (e : Byte), ∃ t, exec (.jrCond cc e) s = .next t ∧ t.regs.f = s.regs.f
      ∧ if condLaw cc s.regs.f = true then RegFrame s t [] (s.pc + 2 + e.signExtend 16) 3
        else RegFrame s t [] (s.pc + 2) 2

/-- O44. R456, R457, R461, R300. -/
def Obligations.Calls : Prop :=
  ∀ s : State,
    (s.sp ≠ 0x0001 →
      (∀ n : Word, ∃ t, exec (.callA16 n) s = .next t ∧ t.sp = s.sp - 2
        ∧ StoreWordFrame s t n 6 (s.sp - 2) (s.pc + 3))
      ∧ (∀ (cc : Cond) (n : Word), condLaw cc s.regs.f = true → ∃ t, exec (.callCond cc n) s = .next t
        ∧ t.sp = s.sp - 2 ∧ StoreWordFrame s t n 6 (s.sp - 2) (s.pc + 3))
      ∧ ∀ y : Fin 8, ∃ t, exec (.rst y) s = .next t ∧ t.sp = s.sp - 2
        ∧ StoreWordFrame s t (BitVec.ofNat 16 (8 * y.val)) 4 (s.sp - 2) (s.pc + 1))
    ∧ (∀ (cc : Cond) (n : Word), condLaw cc s.regs.f = false → ∃ t, exec (.callCond cc n) s = .next t
        ∧ t.regs.f = s.regs.f ∧ RegFrame s t [] (s.pc + 3) 3)
    ∧ (s.sp = 0x0001 →
      (∀ n : Word, exec (.callA16 n) s = .next (addressFaulted s))
      ∧ (∀ (cc : Cond) (n : Word), condLaw cc s.regs.f = true → exec (.callCond cc n) s = .next (addressFaulted s))
      ∧ ∀ y : Fin 8, exec (.rst y) s = .next (addressFaulted s))

/-- O45. R458, R459, R460, R301, R535. -/
def Obligations.Returns : Prop :=
  ∀ s : State,
    (s.sp ≠ 0xFFFF →
      (∃ t, exec .ret s = .next t ∧ t.ime = s.ime ∧ ReturnFrame s t 4)
      ∧ (∀ cc : Cond, condLaw cc s.regs.f = true → ∃ t, exec (.retCond cc) s = .next t ∧ t.ime = s.ime
        ∧ ReturnFrame s t 5)
      ∧ ∃ t, exec .reti s = .next t ∧ t.ime = true ∧ ReturnFrame s t 4)
    ∧ (∀ cc : Cond, condLaw cc s.regs.f = false → ∃ t, exec (.retCond cc) s = .next t ∧ t.regs.f = s.regs.f
        ∧ RegFrame s t [] (s.pc + 1) 2)
    ∧ (s.sp = 0xFFFF →
      exec .ret s = .next (addressFaulted s) ∧ exec .reti s = .next (addressFaulted s)
      ∧ ∀ cc : Cond, condLaw cc s.regs.f = true → exec (.retCond cc) s = .next (addressFaulted s))

/-! ## Processor control -/

/-- O46. R490, R493 and, for EI, R494. -/
def Obligations.NopDiEi : Prop :=
  ∀ s : State,
    (encode .nop = [0x00] ∧ exec .nop s = .next { s with pc := s.pc + 1, cpuNext := some (s.cycle + 1) })
    ∧ (encode .di = [0xF3]
      ∧ exec .di s = .next { s with pc := s.pc + 1, cpuNext := some (s.cycle + 1), ime := false })
    ∧ encode .ei = [0xFB]
      ∧ exec .ei s = .next { s with pc := s.pc + 1, cpuNext := some (s.cycle + 1), ime := true }

/-- O47. R492, R496, R180. -/
def Obligations.StopAndUnusedFault : Prop :=
  ∀ (s : State) (rest : List Byte),
    (decode (0x10 :: rest) = .ok .stop rest ∧ exec .stop s = .next { s with fault := some (.stopFault s.pc) })
    ∧ ∀ op ∈ ([0xD3, 0xDB, 0xDD, 0xE3, 0xE4, 0xEB, 0xEC, 0xED, 0xF4, 0xFC, 0xFD] : List Byte),
        ∃ u, decode (op :: rest) = .ok (.unused u) rest
          ∧ exec (.unused u) s = .next { s with fault := some (.illegalOpcode s.pc op) }

/-! ## The bus -/

/-- O48. R102 to R116, R123 and R85. In `readsBack` and `storeReaches` the clauses for RAM, the timer, the display and the
processor are the spec's; those for Ext's windows, 0xFF50 and 0xFF00 are the model's choice
(notes/assumptions/2.md and 3.md, DESIGN CHOICE): R123 lets a write to Ext or Joypad do anything inside it. -/
def Obligations.StoresReadBack : Prop :=
  ∀ (s : State) (a : Word) (v : Byte),
    (readsBack s a → busRead (busWrite a v s) a = v)
    ∧ ∀ b : Word, ¬storeReaches s a b → busRead (busWrite a v s) b = busRead s b

/-- O49. R103, R104, R116; R106, R111 and R45 (the echo); R105 and R115 (dropped writes); R112 (Ext and Joypad). That a
cartridge may lack RAM, and that 0xFF50 reaches Ext's write, are the model's choice
(notes/assumptions/2.md and 3.md, DESIGN CHOICE). -/
def Obligations.EchoAndUnmapped : Prop :=
  ∀ (s : State) (v : Byte),
    (∀ k : Nat, k < 7680 →
      busRead s (BitVec.ofNat 16 (0xE000 + k)) = busRead s (BitVec.ofNat 16 (0xC000 + k))
        ∧ busWrite (BitVec.ofNat 16 (0xE000 + k)) v s = busWrite (BitVec.ofNat 16 (0xC000 + k)) v s)
    ∧ (∀ a : Word, (a.toNat < 0x8000 ∨ (0xA000 ≤ a.toNat ∧ a.toNat ≤ 0xBFFF) →
        busRead s a = (s.ext.read a).getD 0xFF)
      ∧ (a.toNat < 0x8000 ∨ (0xA000 ≤ a.toNat ∧ a.toNat ≤ 0xBFFF) ∨ a = 0xFF50 →
        busWrite a v s = { s with ext := s.ext.write a v }))
    ∧ busRead s 0xFF00 = (s.joypad.read 0xFF00).getD 0xFF
    ∧ busWrite 0xFF00 v s = { s with joypad := s.joypad.write 0xFF00 v }
    ∧ (∀ a : Word, (0xFEA0 ≤ a.toNat ∧ a.toNat ≤ 0xFEFF) ∨ (0xFF01 ≤ a.toNat ∧ a.toNat ≤ 0xFF03)
        ∨ (0xFF08 ≤ a.toNat ∧ a.toNat ≤ 0xFF0E) ∨ (0xFF10 ≤ a.toNat ∧ a.toNat ≤ 0xFF3F)
        ∨ (0xFF4C ≤ a.toNat ∧ a.toNat ≤ 0xFF4F) ∨ (0xFF51 ≤ a.toNat ∧ a.toNat ≤ 0xFF7F)
        ∨ (0xA000 ≤ a.toNat ∧ a.toNat ≤ 0xBFFF ∧ ∃ c, s.ext = .cartridge c ∧ c.ramPresent = false)
        ∨ (a = 0xFF00 ∧ s.joypad = .noJoypad) →
      busRead s a = 0xFF ∧ busWrite a v s = s)
    ∧ busRead s 0xFF50 = 0xFF ∧ ∀ rest : List Byte, decode (0xFF :: rest) = .ok .rst38 rest

/-! ## Timer -/

/-- O50. R554, R555, R556. -/
def Obligations.TimerCounts : Prop :=
  ∀ s : State, TimerMoved s (timerStep s) (s.timer.tDiv + 4) s.timer.tac

/-- O51. R557, R558, R559, R50. -/
def Obligations.TimerWrites : Prop :=
  ∀ (s : State) (v : Byte),
    TimerMoved s (busWrite 0xFF04 v s) 0 s.timer.tac
    ∧ TimerMoved s (busWrite 0xFF07 v s) s.timer.tDiv v
    ∧ busWrite 0xFF05 v s = { s with timer := { s.timer with tima := v } }
    ∧ busWrite 0xFF06 v s = { s with timer := { s.timer with tma := v } }
    ∧ busRead s 0xFF04 = s.timer.tDiv.extractLsb' 8 8

/-! ## Display controller -/

/-- O52. R602, R62 to R68. -/
def Obligations.DisplayRegisterWrites : Prop :=
  ∀ (s : State) (v : Byte),
    (v.getLsbD 7 = true → busWrite 0xFF40 v s = { s with lcd := { s.lcd with lcdc := v } })
    ∧ busWrite 0xFF41 v s = { s with lcd := { s.lcd with stat := (v &&& 0xF8) ||| (s.lcd.stat &&& 0x07) } }
    ∧ busWrite 0xFF42 v s = { s with lcd := { s.lcd with scy := v } }
    ∧ busWrite 0xFF43 v s = { s with lcd := { s.lcd with scx := v } }
    ∧ busWrite 0xFF44 v s = s
    ∧ busWrite 0xFF46 v s
        = { s with lcd := { s.lcd with dma := v, dmaSrc := BitVec.ofNat 16 (v.toNat * 256), dmaIdx := 0 } }
    ∧ busWrite 0xFF47 v s = { s with lcd := { s.lcd with bgp := v } }
    ∧ busWrite 0xFF48 v s = { s with lcd := { s.lcd with obp0 := v } }
    ∧ busWrite 0xFF49 v s = { s with lcd := { s.lcd with obp1 := v } }
    ∧ busWrite 0xFF4A v s = { s with lcd := { s.lcd with wy := v } }
    ∧ busWrite 0xFF4B v s = { s with lcd := { s.lcd with wx := v } }

/-- O53. R612; R602 with R606 for the write to LYC. -/
def Obligations.PowerOffAndLineCompare : Prop :=
  ∀ (s : State) (v : Byte),
    (v.getLsbD 7 = false → busWrite 0xFF40 v s =
      { s with
        iflag := if s.lcd.lyc = 0 ∧ s.lcd.stat.getLsbD 6 = true then s.iflag ||| 0x02 else s.iflag
        lcd := { s.lcd with
          lcdc := v, ly := 0, next := none
          stat := if s.lcd.lyc = 0 then (s.lcd.stat &&& 0xFC) ||| 0x04 else s.lcd.stat &&& 0xF8 } })
    ∧ busWrite 0xFF45 v s =
      { s with
        iflag := if s.lcd.ly = v ∧ s.lcd.stat.getLsbD 6 = true then s.iflag ||| 0x02 else s.iflag
        lcd := { s.lcd with
          lyc := v
          stat := if s.lcd.ly = v then s.lcd.stat ||| 0x04 else s.lcd.stat &&& 0xFB } }

/-- O54. R601, R605, R606, R610, R613, R621 to R626, R640, R660. -/
def Obligations.ModeTransitions : Prop :=
  ∀ s : State,
    CopyStep s (lcdStep s) ∧
    (s.lcd.next = some s.cycle →
      (s.lcd.mode = 2 → LcdMoved s (lcdStep s) 3 none 43 ∧ (lcdStep s).iflag = s.iflag
        ∧ LcdFrame s (lcdStep s)
            (s.lcd.lineBuf ++ [composeLine { s with lcd := { s.lcd with stat := s.lcd.stat ||| 3 } } s.lcd.ly.toNat])
            (if s.lcd.lcdc.getLsbD 5 = true ∧ s.lcd.wx.toNat < 167 ∧ s.lcd.wy.toNat ≤ s.lcd.ly.toNat
              then s.lcd.winY + 1 else s.lcd.winY) s.lcd.image)
      ∧ (s.lcd.mode = 3 → LcdMoved s (lcdStep s) 0 none 51
        ∧ (lcdStep s).iflag = s.iflag ||| lcdRequest s none (some 0)
        ∧ LcdFrame s (lcdStep s) s.lcd.lineBuf s.lcd.winY s.lcd.image)
      ∧ (s.lcd.mode = 0 → s.lcd.ly.toNat < 143 → LcdMoved s (lcdStep s) 2 (some (s.lcd.ly + 1)) 20
        ∧ (lcdStep s).iflag = s.iflag ||| lcdRequest s (some (s.lcd.ly + 1)) (some 2)
        ∧ LcdFrame s (lcdStep s) s.lcd.lineBuf s.lcd.winY s.lcd.image)
      ∧ (s.lcd.mode = 0 → s.lcd.ly = 143 → LcdMoved s (lcdStep s) 1 (some 144) 114
        ∧ (lcdStep s).iflag = s.iflag ||| lcdRequest s (some 144) (some 1) ||| 0x01
        ∧ LcdFrame s (lcdStep s) s.lcd.lineBuf s.lcd.winY s.lcd.lineBuf)
      ∧ (s.lcd.mode = 1 → s.lcd.ly.toNat < 153 → LcdMoved s (lcdStep s) 1 (some (s.lcd.ly + 1)) 114
        ∧ (lcdStep s).iflag = s.iflag ||| lcdRequest s (some (s.lcd.ly + 1)) none
        ∧ LcdFrame s (lcdStep s) s.lcd.lineBuf s.lcd.winY s.lcd.image)
      ∧ (s.lcd.mode = 1 → s.lcd.ly = 153 → LcdMoved s (lcdStep s) 2 (some 0) 20
        ∧ (lcdStep s).iflag = s.iflag ||| lcdRequest s (some 0) (some 2)
        ∧ LcdFrame s (lcdStep s) [] 0 s.lcd.image))
    ∧ (s.lcd.next = none → s.lcd.lcdc.getLsbD 7 = true → LcdMoved s (lcdStep s) 2 (some 0) 20
        ∧ (lcdStep s).iflag = s.iflag ||| lcdRequest s (some 0) (some 2)
        ∧ LcdFrame s (lcdStep s) [] 0 s.lcd.image)
    ∧ ((s.lcd.next = none ∧ s.lcd.lcdc.getLsbD 7 = false) ∨ (∃ n, s.lcd.next = some n ∧ n ≠ s.cycle) →
        { lcdStep s with mem := s.mem, lcd := { (lcdStep s).lcd with dmaIdx := s.lcd.dmaIdx } } = s)

/-- O55. R620, R626, R627, R670, over the display controller alone (`lcdClock`): the processor may turn it off. -/
def Obligations.FrameTiming : Prop :=
  ∀ s : State, FrameDue s →
    let t := lcdClock^[17556] s
    (lcdClock s).lcd.mode = 2 ∧ (lcdClock s).lcd.ly = 0
      ∧ (∀ k : Nat, 0 < k → k < 17556 → ¬FrameDue (lcdClock^[k] s))
      ∧ FrameDue t ∧ t.cycle = s.cycle + 17556 ∧ (lcdClock t).lcd.mode = 2 ∧ (lcdClock t).lcd.ly = 0
      ∧ t.lcd.image = t.lcd.lineBuf ∧ t.lcd.image.length = 144 ∧ t.iflag.getLsbD 0 = true
      ∧ t.lcd.lcdc = s.lcd.lcdc

/-- O56. R660, R130; `DmaInv` is R77. -/
def Obligations.QuickCopy : Prop :=
  (∀ (s : State) (v : Byte),
      let u := busWrite 0xFF46 v s
      let t := dmaStep^[160] u
      u.lcd.dma = v ∧ u.lcd.dmaSrc.toNat = v.toNat * 256 ∧ u.lcd.dmaIdx = 0
        ∧ (∀ k : Nat, k < 160 →
          busRead t (BitVec.ofNat 16 (0xFE00 + k)) = busRead u (BitVec.ofNat 16 (v.toNat * 256 + k)))
        ∧ (∀ a : Word, a.toNat < 0xFE00 ∨ 0xFEA0 ≤ a.toNat → busRead t a = busRead u a)
        ∧ t.lcd.dmaIdx = 160)
    ∧ ∀ w : State, DmaInv w →
      (w.lcd.dmaIdx < 160 →
        busRead (dmaStep w) (BitVec.ofNat 16 (0xFE00 + w.lcd.dmaIdx))
            = busRead w (BitVec.ofNat 16 (w.lcd.dmaSrc.toNat + w.lcd.dmaIdx))
          ∧ w.lcd.dmaSrc.toNat + w.lcd.dmaIdx ≤ 0xFF9F
          ∧ (∀ a : Word, a.toNat ≠ 0xFE00 + w.lcd.dmaIdx → busRead (dmaStep w) a = busRead w a)
          ∧ (dmaStep w).lcd.dmaIdx = w.lcd.dmaIdx + 1
          ∧ { dmaStep w with mem := w.mem, lcd := { (dmaStep w).lcd with dmaIdx := w.lcd.dmaIdx } } = w)
      ∧ (w.lcd.dmaIdx = 160 → dmaStep w = w)

/-- O57. R650. -/
def Obligations.SpriteSelection : Prop :=
  ∀ (s : State) (line : Nat),
    (s.lcd.lcdc.getLsbD 1 = false → spritesOn s line = [])
    ∧ (s.lcd.lcdc.getLsbD 1 = true →
      (spritesOn s line).Perm (((List.range 40).filter (fun k =>
        decide (((oamByte s (4 * k)).toNat : Int) - 16 ≤ line
          ∧ (line : Int) < ((oamByte s (4 * k)).toNat : Int) - 16 + (if s.lcd.lcdc.getLsbD 2 then 16 else 8)))).take 10)
      ∧ (spritesOn s line).Pairwise (fun j k => (oamByte s (4 * j + 1)).toNat < (oamByte s (4 * k + 1)).toNat
          ∨ ((oamByte s (4 * j + 1)).toNat = (oamByte s (4 * k + 1)).toNat ∧ j < k)))

/-- O58. R630, R652, R655, and for each layer `BackgroundLaw` (R631), `WindowLaw` (R640) and `SpriteLaw` (R651), over
`rawLaw` and `tileLaw` (R632) and `paletteLaw` (R633). -/
def Obligations.ComposedRow : Prop :=
  ∀ (s : State) (line : Nat),
    let behind := (spritesOn s line).filter (fun k => (oamByte s (4 * k + 3)).getLsbD 7)
    let front := (spritesOn s line).filter (fun k => !(oamByte s (4 * k + 3)).getLsbD 7)
    (composeLine s line).length = 160
    ∧ (∀ x : Nat, x < 160 → ∃ p, (composeLine s line)[x]? = some p
      ∧ ((layerPixel s front line x).solid = true → p = (layerPixel s front line x).colour)
      ∧ ((layerPixel s front line x).solid = false →
        (s.lcd.lcdc.getLsbD 5 = true ∧ s.lcd.wx.toNat - 7 < 160 ∧ s.lcd.wy.toNat ≤ line ∧ s.lcd.wx.toNat - 7 ≤ x →
          p = windowPixel s x)
        ∧ (¬(s.lcd.lcdc.getLsbD 5 = true ∧ s.lcd.wx.toNat - 7 < 160 ∧ s.lcd.wy.toNat ≤ line
            ∧ s.lcd.wx.toNat - 7 ≤ x) →
          ((backgroundPixel s line x).solid = false → (layerPixel s behind line x).solid = true →
            p = (layerPixel s behind line x).colour)
          ∧ ((backgroundPixel s line x).solid = true ∨ (layerPixel s behind line x).solid = false →
            p = (backgroundPixel s line x).colour))))
    ∧ ∀ x : Nat, x < 160 →
      BackgroundLaw s line x (backgroundPixel s line x)
      ∧ (s.lcd.wx.toNat - 7 ≤ x → WindowLaw s x (windowPixel s x))
      ∧ (∀ k ∈ spritesOn s line, SpriteLaw s k line x (spritePixel s k line x))
      ∧ ∀ ks : List Nat, layerPixel s ks line x
        = ((ks.map (fun k => spritePixel s k line x)).find? (fun p => p.solid)).getD { colour := 0, solid := false }

/-- O59. R630 to R655, R632: "All addresses stay inside `VRAM`"; the counter is at most 144 by `DisplayInv`. -/
def Obligations.ComposeReadsVideoOnly : Prop :=
  ∀ (s t : State) (line : Nat), t.lcd = s.lcd → s.lcd.winY ≤ 144 →
    (∀ a : Nat, (0x8000 ≤ a ∧ a < 0xA000) ∨ (0xFE00 ≤ a ∧ a < 0xFEA0) → t.mem.read a = s.mem.read a) →
    composeLine t line = composeLine s line

/-! ## The host's surface -/

/-- O60. R512, R513, R521; `Reaches` is the loop `while .. and fault = empty: Tick()`. The bound on the number of steps of
`runUntil` is the model's (notes/assumptions/19.md). -/
def Obligations.AdvanceReaches : Prop :=
  ∀ (target : Nat) (s : State),
    (target < s.cycle → advanceTo target s = .refused (.driverPrecondition target s.cycle))
    ∧ (s.cycle ≤ target → ∃ k t, advanceTo target s = .next t ∧ Reaches k s t
        ∧ (t.fault = none → k = target - s.cycle ∧ t.cycle = target)
        ∧ (t.fault ≠ none → t = s ∨ (t.cycle < target ∧ s.cycle + k = t.cycle + 1)))
    ∧ (∀ (pred : State → Bool) (fuel : Nat) (t : State), runUntil pred fuel s = some (.next t) ↔
        ∃ k ≤ fuel, Reaches k s t ∧ (pred t = true ∨ t.fault ≠ none)
          ∧ ∀ j < k, ∀ u, Reaches j s u → pred u = false)
    ∧ (∀ (pred : State → Bool) (fuel : Nat), runUntil pred fuel s = none ↔
        ∃ t, Reaches fuel s t ∧ t.fault = none ∧ ∀ j ≤ fuel, ∀ u, Reaches j s u → pred u = false)
    ∧ (∀ i : Nat, 5 ≤ i → hostRequestInterrupt i s = .refused (.interruptIndex i))
    ∧ (∀ i : Nat, i < 5 → hostRequestInterrupt i s = .next { s with iflag := s.iflag ||| (1#8 <<< i) })
    ∧ (∀ e : Ext, hostSetExt e s = { s with ext := e }
        ∧ ∀ a : Word, 0x8000 ≤ a.toNat → (a.toNat < 0xA000 ∨ 0xBFFF < a.toNat) →
          busRead (hostSetExt e s) a = busRead s a)
    ∧ ∀ j : Joypad, hostSetJoypad j s = { s with joypad := j }
        ∧ ∀ a : Word, a ≠ 0xFF00 → busRead (hostSetJoypad j s) a = busRead s a

end
end

