-- ==== Sys2Proof/Laws/Memory.lean ====
section
/-! SUPPORT. The laws of memory: a read after a write, and the canonical form, kept by every operation. -/

namespace Sys2Proof.Machine

theorem Memory.read_erase_same (m : Memory) (a : Nat) : (m.erase a).read a = 0 := by
  induction m with
  | nil => rfl
  | cons cell rest ih =>
    simp only [Memory.erase]
    split
    · exact ih
    · simp only [Memory.read, if_neg ‹_›, ih]

theorem Memory.read_erase_other (m : Memory) {a b : Nat} (h : b ≠ a) : (m.erase a).read b = m.read b := by
  induction m with
  | nil => rfl
  | cons cell rest ih =>
    simp only [Memory.erase]
    split
    · rename_i hc
      simp only [Memory.read, hc, if_neg (Ne.symm h), ih]
    · simp only [Memory.read, ih]

/-- Inserting a cell at an address that is not listed makes it the one that is read. -/
theorem Memory.read_insert_same (m : Memory) (a : Nat) (v : Byte) (h : ∀ cell ∈ m, cell.1 ≠ a) :
    (m.insert a v).read a = v := by
  induction m with
  | nil => simp [Memory.insert, Memory.read]
  | cons cell rest ih =>
    have hc : cell.1 ≠ a := h cell (by simp)
    simp only [Memory.insert]
    split
    · simp [Memory.read]
    · simp only [Memory.read, if_neg hc]
      exact ih fun c hm => h c (by simp [hm])

theorem Memory.read_insert_other (m : Memory) {a b : Nat} (v : Byte) (h : b ≠ a) :
    (m.insert a v).read b = m.read b := by
  induction m with
  | nil => simp [Memory.insert, Memory.read, Ne.symm h]
  | cons cell rest ih =>
    simp only [Memory.insert]
    split
    · simp [Memory.read, Ne.symm h]
    · simp only [Memory.read, ih]

theorem Memory.erase_key_ne (m : Memory) (a : Nat) : ∀ cell ∈ m.erase a, cell.1 ≠ a := by
  induction m with
  | nil => simp [Memory.erase]
  | cons cell rest ih =>
    simp only [Memory.erase]
    split
    · exact ih
    · rename_i hc
      intro c hm
      rcases List.mem_cons.mp hm with rfl | hm
      · exact hc
      · exact ih c hm

theorem Memory.mem_of_mem_erase {m : Memory} {a : Nat} {c : Host.Cell} (h : c ∈ m.erase a) : c ∈ m := by
  induction m with
  | nil => simp [Memory.erase] at h
  | cons cell rest ih =>
    simp only [Memory.erase] at h
    split at h
    · exact List.mem_cons_of_mem _ (ih h)
    · rcases List.mem_cons.mp h with rfl | h
      · simp
      · exact List.mem_cons_of_mem _ (ih h)

theorem Memory.mem_insert {m : Memory} {a : Nat} {v : Byte} {c : Host.Cell} (h : c ∈ m.insert a v) :
    c = (a, v) ∨ c ∈ m := by
  induction m with
  | nil =>
    simp only [Memory.insert, List.mem_singleton] at h
    exact .inl h
  | cons cell rest ih =>
    simp only [Memory.insert] at h
    split at h
    · rcases List.mem_cons.mp h with rfl | h
      · exact .inl rfl
      · exact .inr h
    · rcases List.mem_cons.mp h with rfl | h
      · exact .inr (by simp)
      · exact (ih h).imp id (List.mem_cons_of_mem _)

@[simp] theorem Memory.read_write_same (m : Memory) (a : Nat) (v : Byte) : (m.write a v).read a = v := by
  simp only [Memory.write]
  split
  · rename_i hv
    rw [hv, Memory.read_erase_same]
  · exact Memory.read_insert_same _ _ _ (Memory.erase_key_ne m a)

theorem Memory.read_write_other (m : Memory) {a b : Nat} (v : Byte) (h : b ≠ a) :
    (m.write a v).read b = m.read b := by
  simp only [Memory.write]
  split
  · exact Memory.read_erase_other m h
  · rw [Memory.read_insert_other _ v h, Memory.read_erase_other m h]

theorem Memory.read_write (m : Memory) (a b : Nat) (v : Byte) :
    (m.write a v).read b = if b = a then v else m.read b := by
  split
  · rename_i h
    rw [h, Memory.read_write_same]
  · exact Memory.read_write_other m v ‹_›

/-! ## The canonical form -/

theorem Memory.wf_iff (m : Memory) :
    m.wf = true ↔ m.Pairwise (fun x y => x.1 < y.1) ∧ ∀ cell ∈ m, cell.2 ≠ 0 := by
  simp [Memory.wf]

theorem Memory.erase_wf {m : Memory} (a : Nat) (h : m.wf = true) : (m.erase a).wf = true := by
  rw [Memory.wf_iff] at h ⊢
  obtain ⟨hs, hz⟩ := h
  refine ⟨?_, fun c hc => hz c (Memory.mem_of_mem_erase hc)⟩
  clear hz
  induction m with
  | nil => simp [Memory.erase]
  | cons cell rest ih =>
    rw [List.pairwise_cons] at hs
    simp only [Memory.erase]
    split
    · exact ih hs.2
    · exact List.pairwise_cons.mpr ⟨fun c hc => hs.1 c (Memory.mem_of_mem_erase hc), ih hs.2⟩

theorem Memory.insert_wf {m : Memory} (a : Nat) {v : Byte} (hv : v ≠ 0) (hk : ∀ cell ∈ m, cell.1 ≠ a)
    (h : m.wf = true) : (m.insert a v).wf = true := by
  rw [Memory.wf_iff] at h ⊢
  obtain ⟨hs, hz⟩ := h
  constructor
  · clear hz
    induction m with
    | nil => simp [Memory.insert]
    | cons cell rest ih =>
      have hc : cell.1 ≠ a := hk cell (by simp)
      have hs' := List.pairwise_cons.mp hs
      simp only [Memory.insert]
      split
      · rename_i hlt
        refine List.pairwise_cons.mpr ⟨fun c hm => ?_, hs⟩
        rcases List.mem_cons.mp hm with rfl | hm
        · exact hlt
        · exact Nat.lt_trans hlt (hs'.1 c hm)
      · refine List.pairwise_cons.mpr ⟨fun c hm => ?_, ih (fun c hm => hk c (by simp [hm])) hs'.2⟩
        rcases Memory.mem_insert hm with rfl | hm
        · simp only; omega
        · exact hs'.1 c hm
  · intro c hc
    rcases Memory.mem_insert hc with rfl | hc
    · exact hv
    · exact hz c hc

/-- A write keeps the canonical form. -/
theorem Memory.write_wf {m : Memory} (a : Nat) (v : Byte) (h : m.wf = true) : (m.write a v).wf = true := by
  simp only [Memory.write]
  split
  · exact Memory.erase_wf a h
  · exact Memory.insert_wf a ‹_› (Memory.erase_key_ne m a) (Memory.erase_wf a h)

end Sys2Proof.Machine
end

