-- ==== Sys2Proof/Laws/State.lean ====
section
/-! SUPPORT. One lemma per field per named update of the state, so that no later proof unfolds a record
update, and the reads of registers after writes. -/

namespace Sys2Proof.Machine

/-! ## setReg8 -/

@[simp] theorem State.setReg8_cycle (s : State) (r : Reg8) (v : Byte) : (s.setReg8 r v).cycle = s.cycle := rfl
@[simp] theorem State.setReg8_fault (s : State) (r : Reg8) (v : Byte) : (s.setReg8 r v).fault = s.fault := rfl
@[simp] theorem State.setReg8_pc (s : State) (r : Reg8) (v : Byte) : (s.setReg8 r v).pc = s.pc := rfl
@[simp] theorem State.setReg8_sp (s : State) (r : Reg8) (v : Byte) : (s.setReg8 r v).sp = s.sp := rfl
@[simp] theorem State.setReg8_ime (s : State) (r : Reg8) (v : Byte) : (s.setReg8 r v).ime = s.ime := rfl
@[simp] theorem State.setReg8_ie (s : State) (r : Reg8) (v : Byte) : (s.setReg8 r v).ie = s.ie := rfl
@[simp] theorem State.setReg8_iflag (s : State) (r : Reg8) (v : Byte) : (s.setReg8 r v).iflag = s.iflag := rfl
@[simp] theorem State.setReg8_cpuNext (s : State) (r : Reg8) (v : Byte) : (s.setReg8 r v).cpuNext = s.cpuNext := rfl
@[simp] theorem State.setReg8_mem (s : State) (r : Reg8) (v : Byte) : (s.setReg8 r v).mem = s.mem := rfl
@[simp] theorem State.setReg8_timer (s : State) (r : Reg8) (v : Byte) : (s.setReg8 r v).timer = s.timer := rfl
@[simp] theorem State.setReg8_lcd (s : State) (r : Reg8) (v : Byte) : (s.setReg8 r v).lcd = s.lcd := rfl
@[simp] theorem State.setReg8_haltWake (s : State) (r : Reg8) (v : Byte) : (s.setReg8 r v).haltWake = s.haltWake := rfl
@[simp] theorem State.setReg8_ext (s : State) (r : Reg8) (v : Byte) : (s.setReg8 r v).ext = s.ext := rfl
@[simp] theorem State.setReg8_joypad (s : State) (r : Reg8) (v : Byte) : (s.setReg8 r v).joypad = s.joypad := rfl

@[simp] theorem State.setReg8_f (s : State) (r : Reg8) (v : Byte) : (s.setReg8 r v).regs.f = s.regs.f := by
  cases r <;> rfl

@[simp] theorem State.setReg8_same (s : State) (r : Reg8) (v : Byte) : (s.setReg8 r v).reg8 r = v := by
  cases r <;> rfl

theorem State.setReg8_reg8 (s : State) (r q : Reg8) (v : Byte) :
    (s.setReg8 r v).reg8 q = if q = r then v else s.reg8 q := by
  cases r <;> cases q <;> rfl

theorem State.setReg8_other (s : State) {r q : Reg8} (v : Byte) (h : q ≠ r) :
    (s.setReg8 r v).reg8 q = s.reg8 q := by
  rw [State.setReg8_reg8, if_neg h]

@[simp] theorem State.setReg8_a (s : State) (v : Byte) : (s.setReg8 .a v).regs.a = v := rfl

theorem State.reg8_a (s : State) : s.reg8 .a = s.regs.a := rfl

/-- `reg8` looks at the register file only. -/
theorem State.reg8_congr {s t : State} (h : t.regs = s.regs) (r : Reg8) : t.reg8 r = s.reg8 r := by
  cases r <;> simp [State.reg8, h]

theorem State.hl_congr {s t : State} (h : t.regs = s.regs) : t.hl = s.hl := by
  simp [State.hl, h]

/-! ## setF -/

@[simp] theorem State.setF_cycle (s : State) (v : Byte) : (s.setF v).cycle = s.cycle := rfl
@[simp] theorem State.setF_fault (s : State) (v : Byte) : (s.setF v).fault = s.fault := rfl
@[simp] theorem State.setF_pc (s : State) (v : Byte) : (s.setF v).pc = s.pc := rfl
@[simp] theorem State.setF_sp (s : State) (v : Byte) : (s.setF v).sp = s.sp := rfl
@[simp] theorem State.setF_ime (s : State) (v : Byte) : (s.setF v).ime = s.ime := rfl
@[simp] theorem State.setF_ie (s : State) (v : Byte) : (s.setF v).ie = s.ie := rfl
@[simp] theorem State.setF_iflag (s : State) (v : Byte) : (s.setF v).iflag = s.iflag := rfl
@[simp] theorem State.setF_cpuNext (s : State) (v : Byte) : (s.setF v).cpuNext = s.cpuNext := rfl
@[simp] theorem State.setF_mem (s : State) (v : Byte) : (s.setF v).mem = s.mem := rfl
@[simp] theorem State.setF_timer (s : State) (v : Byte) : (s.setF v).timer = s.timer := rfl
@[simp] theorem State.setF_lcd (s : State) (v : Byte) : (s.setF v).lcd = s.lcd := rfl
@[simp] theorem State.setF_haltWake (s : State) (v : Byte) : (s.setF v).haltWake = s.haltWake := rfl
@[simp] theorem State.setF_ext (s : State) (v : Byte) : (s.setF v).ext = s.ext := rfl
@[simp] theorem State.setF_joypad (s : State) (v : Byte) : (s.setF v).joypad = s.joypad := rfl

@[simp] theorem State.setF_f (s : State) (v : Byte) : (s.setF v).regs.f = v &&& 0xF0 := rfl

@[simp] theorem State.setF_reg8 (s : State) (v : Byte) (r : Reg8) : (s.setF v).reg8 r = s.reg8 r := by
  cases r <;> rfl

/-! ## setFlags -/

@[simp] theorem setFlags_cycle {k : Nat} (pol : FlagPolicy) (w : Packed k) (s : State) : (setFlags pol w s).cycle = s.cycle := rfl
@[simp] theorem setFlags_fault {k : Nat} (pol : FlagPolicy) (w : Packed k) (s : State) : (setFlags pol w s).fault = s.fault := rfl
@[simp] theorem setFlags_pc {k : Nat} (pol : FlagPolicy) (w : Packed k) (s : State) : (setFlags pol w s).pc = s.pc := rfl
@[simp] theorem setFlags_sp {k : Nat} (pol : FlagPolicy) (w : Packed k) (s : State) : (setFlags pol w s).sp = s.sp := rfl
@[simp] theorem setFlags_ime {k : Nat} (pol : FlagPolicy) (w : Packed k) (s : State) : (setFlags pol w s).ime = s.ime := rfl
@[simp] theorem setFlags_ie {k : Nat} (pol : FlagPolicy) (w : Packed k) (s : State) : (setFlags pol w s).ie = s.ie := rfl
@[simp] theorem setFlags_iflag {k : Nat} (pol : FlagPolicy) (w : Packed k) (s : State) : (setFlags pol w s).iflag = s.iflag := rfl
@[simp] theorem setFlags_cpuNext {k : Nat} (pol : FlagPolicy) (w : Packed k) (s : State) : (setFlags pol w s).cpuNext = s.cpuNext := rfl
@[simp] theorem setFlags_mem {k : Nat} (pol : FlagPolicy) (w : Packed k) (s : State) : (setFlags pol w s).mem = s.mem := rfl
@[simp] theorem setFlags_timer {k : Nat} (pol : FlagPolicy) (w : Packed k) (s : State) : (setFlags pol w s).timer = s.timer := rfl
@[simp] theorem setFlags_lcd {k : Nat} (pol : FlagPolicy) (w : Packed k) (s : State) : (setFlags pol w s).lcd = s.lcd := rfl
@[simp] theorem setFlags_haltWake {k : Nat} (pol : FlagPolicy) (w : Packed k) (s : State) : (setFlags pol w s).haltWake = s.haltWake := rfl
@[simp] theorem setFlags_ext {k : Nat} (pol : FlagPolicy) (w : Packed k) (s : State) : (setFlags pol w s).ext = s.ext := rfl
@[simp] theorem setFlags_joypad {k : Nat} (pol : FlagPolicy) (w : Packed k) (s : State) : (setFlags pol w s).joypad = s.joypad := rfl

@[simp] theorem setFlags_reg8 {k : Nat} (pol : FlagPolicy) (w : Packed k) (s : State) (r : Reg8) :
    (setFlags pol w s).reg8 r = s.reg8 r := State.setF_reg8 _ _ r

@[simp] theorem setFlags_a {k : Nat} (pol : FlagPolicy) (w : Packed k) (s : State) :
    (setFlags pol w s).regs.a = s.regs.a := rfl

/-- F has its four flags in its high nibble and 0 below (R33). -/
theorem flagByte_and_F0 (z n h c : Bool) : flagByte z n h c &&& 0xF0 = flagByte z n h c := by
  cases z <;> cases n <;> cases h <;> cases c <;> decide

theorem flagByte_low (z n h c : Bool) : flagByte z n h c &&& 0x0F = 0 := by
  cases z <;> cases n <;> cases h <;> cases c <;> decide

@[simp] theorem flagZ_flagByte (z n h c : Bool) : flagZ (flagByte z n h c) = z := by
  cases z <;> cases n <;> cases h <;> cases c <;> decide

@[simp] theorem flagN_flagByte (z n h c : Bool) : flagN (flagByte z n h c) = n := by
  cases z <;> cases n <;> cases h <;> cases c <;> decide

@[simp] theorem flagH_flagByte (z n h c : Bool) : flagH (flagByte z n h c) = h := by
  cases z <;> cases n <;> cases h <;> cases c <;> decide

@[simp] theorem flagC_flagByte (z n h c : Bool) : flagC (flagByte z n h c) = c := by
  cases z <;> cases n <;> cases h <;> cases c <;> decide

/-- The four flags replaced in one write (R225). -/
@[simp] theorem setFlags_f {k : Nat} (pol : FlagPolicy) (w : Packed k) (s : State) :
    (setFlags pol w s).regs.f = combine pol w s.regs.f := by
  exact flagByte_and_F0 _ _ _ _

/-! ## setHl -/

@[simp] theorem State.setHl_cycle (s : State) (w : Word) : (s.setHl w).cycle = s.cycle := rfl
@[simp] theorem State.setHl_fault (s : State) (w : Word) : (s.setHl w).fault = s.fault := rfl
@[simp] theorem State.setHl_pc (s : State) (w : Word) : (s.setHl w).pc = s.pc := rfl
@[simp] theorem State.setHl_sp (s : State) (w : Word) : (s.setHl w).sp = s.sp := rfl
@[simp] theorem State.setHl_ime (s : State) (w : Word) : (s.setHl w).ime = s.ime := rfl
@[simp] theorem State.setHl_ie (s : State) (w : Word) : (s.setHl w).ie = s.ie := rfl
@[simp] theorem State.setHl_iflag (s : State) (w : Word) : (s.setHl w).iflag = s.iflag := rfl
@[simp] theorem State.setHl_cpuNext (s : State) (w : Word) : (s.setHl w).cpuNext = s.cpuNext := rfl
@[simp] theorem State.setHl_mem (s : State) (w : Word) : (s.setHl w).mem = s.mem := rfl
@[simp] theorem State.setHl_timer (s : State) (w : Word) : (s.setHl w).timer = s.timer := rfl
@[simp] theorem State.setHl_lcd (s : State) (w : Word) : (s.setHl w).lcd = s.lcd := rfl
@[simp] theorem State.setHl_haltWake (s : State) (w : Word) : (s.setHl w).haltWake = s.haltWake := rfl
@[simp] theorem State.setHl_ext (s : State) (w : Word) : (s.setHl w).ext = s.ext := rfl
@[simp] theorem State.setHl_joypad (s : State) (w : Word) : (s.setHl w).joypad = s.joypad := rfl

@[simp] theorem State.setHl_f (s : State) (w : Word) : (s.setHl w).regs.f = s.regs.f := rfl

theorem State.setHl_other (s : State) (w : Word) {r : Reg8} (hh : r ≠ .h) (hl : r ≠ .l) :
    (s.setHl w).reg8 r = s.reg8 r := by
  cases r <;> first | rfl | contradiction

theorem make16_hi_lo (w : Word) : make16 (hi8 w) (lo8 w) = w := by
  apply BitVec.eq_of_getLsbD_eq
  intro i hi
  simp only [make16, hi8, lo8, BitVec.getLsbD_append, BitVec.getLsbD_extractLsb']
  by_cases h : i < 8
  · simp [h]
  · simp only [h, if_false]
    have : i - 8 < 8 := by omega
    simp only [this, decide_true, Bool.true_and]
    congr 1
    omega

theorem lo8_make16 (h l : Byte) : lo8 (make16 h l) = l := by
  apply BitVec.eq_of_getLsbD_eq
  intro i hi
  simp only [lo8, make16, BitVec.getLsbD_extractLsb', BitVec.getLsbD_append]
  simp [hi]

theorem hi8_make16 (h l : Byte) : hi8 (make16 h l) = h := by
  apply BitVec.eq_of_getLsbD_eq
  intro i hi
  simp only [hi8, make16, BitVec.getLsbD_extractLsb', BitVec.getLsbD_append]
  simp [hi]

@[simp] theorem State.setHl_hl (s : State) (w : Word) : (s.setHl w).hl = w := make16_hi_lo w

/-! ## setPair and setStackPair -/

@[simp] theorem State.setPair_cycle (s : State) (p : Pair) (w : Word) : (s.setPair p w).cycle = s.cycle := by
  cases p <;> rfl
@[simp] theorem State.setPair_fault (s : State) (p : Pair) (w : Word) : (s.setPair p w).fault = s.fault := by
  cases p <;> rfl
@[simp] theorem State.setPair_pc (s : State) (p : Pair) (w : Word) : (s.setPair p w).pc = s.pc := by
  cases p <;> rfl
@[simp] theorem State.setPair_ime (s : State) (p : Pair) (w : Word) : (s.setPair p w).ime = s.ime := by
  cases p <;> rfl
@[simp] theorem State.setPair_ie (s : State) (p : Pair) (w : Word) : (s.setPair p w).ie = s.ie := by
  cases p <;> rfl
@[simp] theorem State.setPair_iflag (s : State) (p : Pair) (w : Word) : (s.setPair p w).iflag = s.iflag := by
  cases p <;> rfl
@[simp] theorem State.setPair_cpuNext (s : State) (p : Pair) (w : Word) : (s.setPair p w).cpuNext = s.cpuNext := by
  cases p <;> rfl
@[simp] theorem State.setPair_mem (s : State) (p : Pair) (w : Word) : (s.setPair p w).mem = s.mem := by
  cases p <;> rfl
@[simp] theorem State.setPair_timer (s : State) (p : Pair) (w : Word) : (s.setPair p w).timer = s.timer := by
  cases p <;> rfl
@[simp] theorem State.setPair_lcd (s : State) (p : Pair) (w : Word) : (s.setPair p w).lcd = s.lcd := by
  cases p <;> rfl
@[simp] theorem State.setPair_haltWake (s : State) (p : Pair) (w : Word) : (s.setPair p w).haltWake = s.haltWake := by
  cases p <;> rfl
@[simp] theorem State.setPair_ext (s : State) (p : Pair) (w : Word) : (s.setPair p w).ext = s.ext := by
  cases p <;> rfl
@[simp] theorem State.setPair_joypad (s : State) (p : Pair) (w : Word) : (s.setPair p w).joypad = s.joypad := by
  cases p <;> rfl
@[simp] theorem State.setStackPair_cycle (s : State) (q : StackPair) (w : Word) :
    (s.setStackPair q w).cycle = s.cycle := by
  cases q <;> rfl
@[simp] theorem State.setStackPair_fault (s : State) (q : StackPair) (w : Word) :
    (s.setStackPair q w).fault = s.fault := by
  cases q <;> rfl
@[simp] theorem State.setStackPair_pc (s : State) (q : StackPair) (w : Word) :
    (s.setStackPair q w).pc = s.pc := by
  cases q <;> rfl
@[simp] theorem State.setStackPair_sp (s : State) (q : StackPair) (w : Word) :
    (s.setStackPair q w).sp = s.sp := by
  cases q <;> rfl
@[simp] theorem State.setStackPair_ime (s : State) (q : StackPair) (w : Word) :
    (s.setStackPair q w).ime = s.ime := by
  cases q <;> rfl
@[simp] theorem State.setStackPair_ie (s : State) (q : StackPair) (w : Word) :
    (s.setStackPair q w).ie = s.ie := by
  cases q <;> rfl
@[simp] theorem State.setStackPair_iflag (s : State) (q : StackPair) (w : Word) :
    (s.setStackPair q w).iflag = s.iflag := by
  cases q <;> rfl
@[simp] theorem State.setStackPair_cpuNext (s : State) (q : StackPair) (w : Word) :
    (s.setStackPair q w).cpuNext = s.cpuNext := by
  cases q <;> rfl
@[simp] theorem State.setStackPair_mem (s : State) (q : StackPair) (w : Word) :
    (s.setStackPair q w).mem = s.mem := by
  cases q <;> rfl
@[simp] theorem State.setStackPair_timer (s : State) (q : StackPair) (w : Word) :
    (s.setStackPair q w).timer = s.timer := by
  cases q <;> rfl
@[simp] theorem State.setStackPair_lcd (s : State) (q : StackPair) (w : Word) :
    (s.setStackPair q w).lcd = s.lcd := by
  cases q <;> rfl
@[simp] theorem State.setStackPair_haltWake (s : State) (q : StackPair) (w : Word) :
    (s.setStackPair q w).haltWake = s.haltWake := by
  cases q <;> rfl
@[simp] theorem State.setStackPair_ext (s : State) (q : StackPair) (w : Word) :
    (s.setStackPair q w).ext = s.ext := by
  cases q <;> rfl
@[simp] theorem State.setStackPair_joypad (s : State) (q : StackPair) (w : Word) :
    (s.setStackPair q w).joypad = s.joypad := by
  cases q <;> rfl

@[simp] theorem State.setPair_f (s : State) (p : Pair) (w : Word) : (s.setPair p w).regs.f = s.regs.f := by
  cases p <;> rfl

@[simp] theorem State.setPair_pair (s : State) (p : Pair) (w : Word) : (s.setPair p w).pair p = w := by
  cases p <;> first | exact make16_hi_lo w | rfl

theorem State.pair_congr {s t : State} (hr : t.regs = s.regs) (hs : t.sp = s.sp) (p : Pair) :
    t.pair p = s.pair p := by
  cases p <;> simp [State.pair, State.bc, State.de, State.hl, hr, hs]

/-! ## jumpTo -/

@[simp] theorem jumpTo_cycle (target : Word) (cycles : Nat) (s : State) : (jumpTo target cycles s).cycle = s.cycle := rfl
@[simp] theorem jumpTo_fault (target : Word) (cycles : Nat) (s : State) : (jumpTo target cycles s).fault = s.fault := rfl
@[simp] theorem jumpTo_regs (target : Word) (cycles : Nat) (s : State) : (jumpTo target cycles s).regs = s.regs := rfl
@[simp] theorem jumpTo_sp (target : Word) (cycles : Nat) (s : State) : (jumpTo target cycles s).sp = s.sp := rfl
@[simp] theorem jumpTo_ime (target : Word) (cycles : Nat) (s : State) : (jumpTo target cycles s).ime = s.ime := rfl
@[simp] theorem jumpTo_ie (target : Word) (cycles : Nat) (s : State) : (jumpTo target cycles s).ie = s.ie := rfl
@[simp] theorem jumpTo_iflag (target : Word) (cycles : Nat) (s : State) : (jumpTo target cycles s).iflag = s.iflag := rfl
@[simp] theorem jumpTo_mem (target : Word) (cycles : Nat) (s : State) : (jumpTo target cycles s).mem = s.mem := rfl
@[simp] theorem jumpTo_timer (target : Word) (cycles : Nat) (s : State) : (jumpTo target cycles s).timer = s.timer := rfl
@[simp] theorem jumpTo_lcd (target : Word) (cycles : Nat) (s : State) : (jumpTo target cycles s).lcd = s.lcd := rfl
@[simp] theorem jumpTo_haltWake (target : Word) (cycles : Nat) (s : State) : (jumpTo target cycles s).haltWake = s.haltWake := rfl
@[simp] theorem jumpTo_ext (target : Word) (cycles : Nat) (s : State) : (jumpTo target cycles s).ext = s.ext := rfl
@[simp] theorem jumpTo_joypad (target : Word) (cycles : Nat) (s : State) : (jumpTo target cycles s).joypad = s.joypad := rfl

@[simp] theorem jumpTo_pc (target : Word) (cycles : Nat) (s : State) : (jumpTo target cycles s).pc = target := rfl
@[simp] theorem jumpTo_cpuNext (target : Word) (cycles : Nat) (s : State) :
    (jumpTo target cycles s).cpuNext = some (s.cycle + cycles) := rfl
@[simp] theorem jumpTo_reg8 (target : Word) (cycles : Nat) (s : State) (r : Reg8) :
    (jumpTo target cycles s).reg8 r = s.reg8 r := by cases r <;> rfl

/-! ## advance -/

@[simp] theorem advance_cycle (len : Word) (cycles : Nat) (s : State) : (advance len cycles s).cycle = s.cycle := rfl
@[simp] theorem advance_fault (len : Word) (cycles : Nat) (s : State) : (advance len cycles s).fault = s.fault := rfl
@[simp] theorem advance_regs (len : Word) (cycles : Nat) (s : State) : (advance len cycles s).regs = s.regs := rfl
@[simp] theorem advance_sp (len : Word) (cycles : Nat) (s : State) : (advance len cycles s).sp = s.sp := rfl
@[simp] theorem advance_ime (len : Word) (cycles : Nat) (s : State) : (advance len cycles s).ime = s.ime := rfl
@[simp] theorem advance_ie (len : Word) (cycles : Nat) (s : State) : (advance len cycles s).ie = s.ie := rfl
@[simp] theorem advance_iflag (len : Word) (cycles : Nat) (s : State) : (advance len cycles s).iflag = s.iflag := rfl
@[simp] theorem advance_mem (len : Word) (cycles : Nat) (s : State) : (advance len cycles s).mem = s.mem := rfl
@[simp] theorem advance_timer (len : Word) (cycles : Nat) (s : State) : (advance len cycles s).timer = s.timer := rfl
@[simp] theorem advance_lcd (len : Word) (cycles : Nat) (s : State) : (advance len cycles s).lcd = s.lcd := rfl
@[simp] theorem advance_haltWake (len : Word) (cycles : Nat) (s : State) : (advance len cycles s).haltWake = s.haltWake := rfl
@[simp] theorem advance_ext (len : Word) (cycles : Nat) (s : State) : (advance len cycles s).ext = s.ext := rfl
@[simp] theorem advance_joypad (len : Word) (cycles : Nat) (s : State) : (advance len cycles s).joypad = s.joypad := rfl

@[simp] theorem advance_pc (len : Word) (cycles : Nat) (s : State) : (advance len cycles s).pc = s.pc + len := rfl
@[simp] theorem advance_cpuNext (len : Word) (cycles : Nat) (s : State) :
    (advance len cycles s).cpuNext = some (s.cycle + cycles) := rfl
@[simp] theorem advance_reg8 (len : Word) (cycles : Nat) (s : State) (r : Reg8) :
    (advance len cycles s).reg8 r = s.reg8 r := by cases r <;> rfl

/-! ## raiseFault -/

@[simp] theorem raiseFault_cycle (f : Fault) (s : State) : (raiseFault f s).cycle = s.cycle := rfl
@[simp] theorem raiseFault_regs (f : Fault) (s : State) : (raiseFault f s).regs = s.regs := rfl
@[simp] theorem raiseFault_pc (f : Fault) (s : State) : (raiseFault f s).pc = s.pc := rfl
@[simp] theorem raiseFault_sp (f : Fault) (s : State) : (raiseFault f s).sp = s.sp := rfl
@[simp] theorem raiseFault_ime (f : Fault) (s : State) : (raiseFault f s).ime = s.ime := rfl
@[simp] theorem raiseFault_ie (f : Fault) (s : State) : (raiseFault f s).ie = s.ie := rfl
@[simp] theorem raiseFault_iflag (f : Fault) (s : State) : (raiseFault f s).iflag = s.iflag := rfl
@[simp] theorem raiseFault_cpuNext (f : Fault) (s : State) : (raiseFault f s).cpuNext = s.cpuNext := rfl
@[simp] theorem raiseFault_mem (f : Fault) (s : State) : (raiseFault f s).mem = s.mem := rfl
@[simp] theorem raiseFault_timer (f : Fault) (s : State) : (raiseFault f s).timer = s.timer := rfl
@[simp] theorem raiseFault_lcd (f : Fault) (s : State) : (raiseFault f s).lcd = s.lcd := rfl
@[simp] theorem raiseFault_haltWake (f : Fault) (s : State) : (raiseFault f s).haltWake = s.haltWake := rfl
@[simp] theorem raiseFault_ext (f : Fault) (s : State) : (raiseFault f s).ext = s.ext := rfl
@[simp] theorem raiseFault_joypad (f : Fault) (s : State) : (raiseFault f s).joypad = s.joypad := rfl

@[simp] theorem raiseFault_fault (f : Fault) (s : State) : (raiseFault f s).fault = some f := rfl

/-! ## requestInterrupt -/

@[simp] theorem requestInterrupt_cycle (i : Fin 5) (s : State) : (requestInterrupt i s).cycle = s.cycle := rfl
@[simp] theorem requestInterrupt_fault (i : Fin 5) (s : State) : (requestInterrupt i s).fault = s.fault := rfl
@[simp] theorem requestInterrupt_regs (i : Fin 5) (s : State) : (requestInterrupt i s).regs = s.regs := rfl
@[simp] theorem requestInterrupt_pc (i : Fin 5) (s : State) : (requestInterrupt i s).pc = s.pc := rfl
@[simp] theorem requestInterrupt_sp (i : Fin 5) (s : State) : (requestInterrupt i s).sp = s.sp := rfl
@[simp] theorem requestInterrupt_ime (i : Fin 5) (s : State) : (requestInterrupt i s).ime = s.ime := rfl
@[simp] theorem requestInterrupt_ie (i : Fin 5) (s : State) : (requestInterrupt i s).ie = s.ie := rfl
@[simp] theorem requestInterrupt_cpuNext (i : Fin 5) (s : State) : (requestInterrupt i s).cpuNext = s.cpuNext := rfl
@[simp] theorem requestInterrupt_mem (i : Fin 5) (s : State) : (requestInterrupt i s).mem = s.mem := rfl
@[simp] theorem requestInterrupt_timer (i : Fin 5) (s : State) : (requestInterrupt i s).timer = s.timer := rfl
@[simp] theorem requestInterrupt_lcd (i : Fin 5) (s : State) : (requestInterrupt i s).lcd = s.lcd := rfl
@[simp] theorem requestInterrupt_haltWake (i : Fin 5) (s : State) : (requestInterrupt i s).haltWake = s.haltWake := rfl
@[simp] theorem requestInterrupt_ext (i : Fin 5) (s : State) : (requestInterrupt i s).ext = s.ext := rfl
@[simp] theorem requestInterrupt_joypad (i : Fin 5) (s : State) : (requestInterrupt i s).joypad = s.joypad := rfl

/-! ## popSp -/

@[simp] theorem popSp_cycle (s : State) : (popSp s).cycle = s.cycle := rfl
@[simp] theorem popSp_fault (s : State) : (popSp s).fault = s.fault := rfl
@[simp] theorem popSp_regs (s : State) : (popSp s).regs = s.regs := rfl
@[simp] theorem popSp_pc (s : State) : (popSp s).pc = s.pc := rfl
@[simp] theorem popSp_ime (s : State) : (popSp s).ime = s.ime := rfl
@[simp] theorem popSp_ie (s : State) : (popSp s).ie = s.ie := rfl
@[simp] theorem popSp_iflag (s : State) : (popSp s).iflag = s.iflag := rfl
@[simp] theorem popSp_cpuNext (s : State) : (popSp s).cpuNext = s.cpuNext := rfl
@[simp] theorem popSp_mem (s : State) : (popSp s).mem = s.mem := rfl
@[simp] theorem popSp_timer (s : State) : (popSp s).timer = s.timer := rfl
@[simp] theorem popSp_lcd (s : State) : (popSp s).lcd = s.lcd := rfl
@[simp] theorem popSp_haltWake (s : State) : (popSp s).haltWake = s.haltWake := rfl
@[simp] theorem popSp_ext (s : State) : (popSp s).ext = s.ext := rfl
@[simp] theorem popSp_joypad (s : State) : (popSp s).joypad = s.joypad := rfl

/-! ## incHlPtr -/

@[simp] theorem incHlPtr_cycle (s : State) : (incHlPtr s).cycle = s.cycle := rfl
@[simp] theorem incHlPtr_fault (s : State) : (incHlPtr s).fault = s.fault := rfl
@[simp] theorem incHlPtr_pc (s : State) : (incHlPtr s).pc = s.pc := rfl
@[simp] theorem incHlPtr_sp (s : State) : (incHlPtr s).sp = s.sp := rfl
@[simp] theorem incHlPtr_ime (s : State) : (incHlPtr s).ime = s.ime := rfl
@[simp] theorem incHlPtr_ie (s : State) : (incHlPtr s).ie = s.ie := rfl
@[simp] theorem incHlPtr_iflag (s : State) : (incHlPtr s).iflag = s.iflag := rfl
@[simp] theorem incHlPtr_cpuNext (s : State) : (incHlPtr s).cpuNext = s.cpuNext := rfl
@[simp] theorem incHlPtr_mem (s : State) : (incHlPtr s).mem = s.mem := rfl
@[simp] theorem incHlPtr_timer (s : State) : (incHlPtr s).timer = s.timer := rfl
@[simp] theorem incHlPtr_lcd (s : State) : (incHlPtr s).lcd = s.lcd := rfl
@[simp] theorem incHlPtr_haltWake (s : State) : (incHlPtr s).haltWake = s.haltWake := rfl
@[simp] theorem incHlPtr_ext (s : State) : (incHlPtr s).ext = s.ext := rfl
@[simp] theorem incHlPtr_joypad (s : State) : (incHlPtr s).joypad = s.joypad := rfl

/-! ## decHlPtr -/

@[simp] theorem decHlPtr_cycle (s : State) : (decHlPtr s).cycle = s.cycle := rfl
@[simp] theorem decHlPtr_fault (s : State) : (decHlPtr s).fault = s.fault := rfl
@[simp] theorem decHlPtr_pc (s : State) : (decHlPtr s).pc = s.pc := rfl
@[simp] theorem decHlPtr_sp (s : State) : (decHlPtr s).sp = s.sp := rfl
@[simp] theorem decHlPtr_ime (s : State) : (decHlPtr s).ime = s.ime := rfl
@[simp] theorem decHlPtr_ie (s : State) : (decHlPtr s).ie = s.ie := rfl
@[simp] theorem decHlPtr_iflag (s : State) : (decHlPtr s).iflag = s.iflag := rfl
@[simp] theorem decHlPtr_cpuNext (s : State) : (decHlPtr s).cpuNext = s.cpuNext := rfl
@[simp] theorem decHlPtr_mem (s : State) : (decHlPtr s).mem = s.mem := rfl
@[simp] theorem decHlPtr_timer (s : State) : (decHlPtr s).timer = s.timer := rfl
@[simp] theorem decHlPtr_lcd (s : State) : (decHlPtr s).lcd = s.lcd := rfl
@[simp] theorem decHlPtr_haltWake (s : State) : (decHlPtr s).haltWake = s.haltWake := rfl
@[simp] theorem decHlPtr_ext (s : State) : (decHlPtr s).ext = s.ext := rfl
@[simp] theorem decHlPtr_joypad (s : State) : (decHlPtr s).joypad = s.joypad := rfl

@[simp] theorem popSp_reg8 (s : State) (r : Reg8) : (popSp s).reg8 r = s.reg8 r := by cases r <;> rfl

@[simp] theorem incHlPtr_f (s : State) : (incHlPtr s).regs.f = s.regs.f := rfl
@[simp] theorem decHlPtr_f (s : State) : (decHlPtr s).regs.f = s.regs.f := rfl

end Sys2Proof.Machine
end

