-- ==== Sys2Proof/Laws/Bus.lean ====
section
/-! SUPPORT. What the bus and the devices can do: which state a device action leaves alone, and what a bus
read returns after one. -/

namespace Sys2Proof.Machine

/-! ## What no device action touches -/

/-- The processor's own state and the clock are as before. -/
structure CpuKept (s t : State) : Prop where
  regs        : t.regs = s.regs
  pc          : t.pc = s.pc
  sp          : t.sp = s.sp
  ime         : t.ime = s.ime
  cpuNext     : t.cpuNext = s.cpuNext
  cycle       : t.cycle = s.cycle
  fault       : t.fault = s.fault
  haltWake    : t.haltWake = s.haltWake

theorem CpuKept.refl (s : State) : CpuKept s s := ⟨rfl, rfl, rfl, rfl, rfl, rfl, rfl, rfl⟩

theorem CpuKept.trans {s t u : State} (h : CpuKept s t) (k : CpuKept t u) : CpuKept s u :=
  ⟨k.regs.trans h.regs, k.pc.trans h.pc, k.sp.trans h.sp, k.ime.trans h.ime, k.cpuNext.trans h.cpuNext,
    k.cycle.trans h.cycle, k.fault.trans h.fault, k.haltWake.trans h.haltWake⟩

theorem CpuKept.ite {s t u : State} {p : Prop} [Decidable p] (h : CpuKept s t) (k : CpuKept s u) :
    CpuKept s (if p then t else u) := by
  split
  · exact h
  · exact k

theorem requestInterrupt_kept (i : Fin 5) (s : State) : CpuKept s (requestInterrupt i s) := by
  constructor <;> rfl

theorem timaTick_kept (s : State) : CpuKept s (timaTick s) := by
  unfold timaTick; split <;> constructor <;> rfl

theorem timerEdge_kept (t : Timer) (s : State) : CpuKept s (timerEdge t s) := by
  unfold timerEdge
  dsimp only
  split
  · exact CpuKept.trans (by constructor <;> rfl) (timaTick_kept _)
  · constructor <;> rfl

theorem timerStep_kept (s : State) : CpuKept s (timerStep s) := timerEdge_kept _ s

theorem setMode_kept (m : BitVec 2) (s : State) : CpuKept s (setMode m s) := by
  unfold setMode; dsimp only; split <;> constructor <;> rfl

theorem coincidence_kept (s : State) : CpuKept s (coincidence s) := by
  unfold coincidence; dsimp only; split
  · split <;> constructor <;> rfl
  · constructor <;> rfl

theorem setLy_kept (n : Byte) (s : State) : CpuKept s (setLy n s) :=
  CpuKept.trans (by constructor <;> rfl) (coincidence_kept _)

theorem powerOff_kept (s : State) : CpuKept s (powerOff s) := by
  have h : CpuKept s (setLy 0 { s with lcd := s.lcd.withMode 0 }) := 
    CpuKept.trans (by constructor <;> rfl) (setLy_kept _ _)
  exact h.trans (by constructor <;> rfl)

theorem writeLcdc_kept (v : Byte) (s : State) : CpuKept s (writeLcdc v s) := by
  unfold writeLcdc; dsimp only; split
  · constructor <;> rfl
  · exact CpuKept.trans (by constructor <;> rfl) (powerOff_kept _)

theorem writeLyc_kept (v : Byte) (s : State) : CpuKept s (writeLyc v s) :=
  CpuKept.trans (by constructor <;> rfl) (coincidence_kept _)

theorem wramWrite_kept (a : Word) (v : Byte) (s : State) : CpuKept s (wramWrite a v s) :=
  .ite (by constructor <;> rfl) (.refl s)

theorem echoWrite_kept (a : Word) (v : Byte) (s : State) : CpuKept s (echoWrite a v s) :=
  .ite (by constructor <;> rfl) (.refl s)

theorem cpuWrite_kept (a : Word) (v : Byte) (s : State) : CpuKept s (cpuWrite a v s) := by
  unfold cpuWrite
  repeat' with_reducible apply CpuKept.ite
  all_goals constructor <;> rfl

theorem extWrite_kept (a : Word) (v : Byte) (s : State) : CpuKept s (extWrite a v s) := by
  constructor <;> rfl

theorem joypadWrite_kept (a : Word) (v : Byte) (s : State) : CpuKept s (joypadWrite a v s) := by
  constructor <;> rfl

@[simp] theorem extWrite_mem (a : Word) (v : Byte) (s : State) : (extWrite a v s).mem = s.mem := rfl
@[simp] theorem extWrite_ie (a : Word) (v : Byte) (s : State) : (extWrite a v s).ie = s.ie := rfl
@[simp] theorem extWrite_iflag (a : Word) (v : Byte) (s : State) : (extWrite a v s).iflag = s.iflag := rfl
@[simp] theorem extWrite_timer (a : Word) (v : Byte) (s : State) : (extWrite a v s).timer = s.timer := rfl
@[simp] theorem extWrite_lcd (a : Word) (v : Byte) (s : State) : (extWrite a v s).lcd = s.lcd := rfl
@[simp] theorem extWrite_ext (a : Word) (v : Byte) (s : State) :
    (extWrite a v s).ext = s.ext.write a v := rfl
@[simp] theorem extWrite_joypad (a : Word) (v : Byte) (s : State) : (extWrite a v s).joypad = s.joypad := rfl
@[simp] theorem joypadWrite_mem (a : Word) (v : Byte) (s : State) : (joypadWrite a v s).mem = s.mem := rfl
@[simp] theorem joypadWrite_ie (a : Word) (v : Byte) (s : State) : (joypadWrite a v s).ie = s.ie := rfl
@[simp] theorem joypadWrite_iflag (a : Word) (v : Byte) (s : State) : (joypadWrite a v s).iflag = s.iflag := rfl
@[simp] theorem joypadWrite_timer (a : Word) (v : Byte) (s : State) : (joypadWrite a v s).timer = s.timer := rfl
@[simp] theorem joypadWrite_lcd (a : Word) (v : Byte) (s : State) : (joypadWrite a v s).lcd = s.lcd := rfl
@[simp] theorem joypadWrite_ext (a : Word) (v : Byte) (s : State) : (joypadWrite a v s).ext = s.ext := rfl
@[simp] theorem joypadWrite_joypad (a : Word) (v : Byte) (s : State) :
    (joypadWrite a v s).joypad = s.joypad.write a v := rfl

theorem timerWrite_kept (a : Word) (v : Byte) (s : State) : CpuKept s (timerWrite a v s) := by
  unfold timerWrite
  repeat' with_reducible apply CpuKept.ite
  all_goals first | exact timerEdge_kept _ s | (constructor <;> rfl)

theorem displayWrite_kept (a : Word) (v : Byte) (s : State) : CpuKept s (displayWrite a v s) := by
  unfold displayWrite
  repeat' with_reducible apply CpuKept.ite
  all_goals first | exact writeLcdc_kept v s | exact writeLyc_kept v s | (constructor <;> rfl)

/-- A bus write leaves the processor and the clock alone. -/
theorem busWrite_kept (a : Word) (v : Byte) (s : State) : CpuKept s (busWrite a v s) :=
  (wramWrite_kept a v s).trans <| (echoWrite_kept a v _).trans <| (cpuWrite_kept a v _).trans <|
    (extWrite_kept a v _).trans <| (timerWrite_kept a v _).trans <|
    (displayWrite_kept a v _).trans (joypadWrite_kept a v _)

@[simp] theorem busWrite_regs (a : Word) (v : Byte) (s : State) : (busWrite a v s).regs = s.regs :=
  (busWrite_kept a v s).regs
@[simp] theorem busWrite_pc (a : Word) (v : Byte) (s : State) : (busWrite a v s).pc = s.pc :=
  (busWrite_kept a v s).pc
@[simp] theorem busWrite_sp (a : Word) (v : Byte) (s : State) : (busWrite a v s).sp = s.sp :=
  (busWrite_kept a v s).sp
@[simp] theorem busWrite_ime (a : Word) (v : Byte) (s : State) : (busWrite a v s).ime = s.ime :=
  (busWrite_kept a v s).ime
@[simp] theorem busWrite_cpuNext (a : Word) (v : Byte) (s : State) : (busWrite a v s).cpuNext = s.cpuNext :=
  (busWrite_kept a v s).cpuNext
@[simp] theorem busWrite_cycle (a : Word) (v : Byte) (s : State) : (busWrite a v s).cycle = s.cycle :=
  (busWrite_kept a v s).cycle
@[simp] theorem busWrite_fault (a : Word) (v : Byte) (s : State) : (busWrite a v s).fault = s.fault :=
  (busWrite_kept a v s).fault
@[simp] theorem busWrite_haltWake (a : Word) (v : Byte) (s : State) :
    (busWrite a v s).haltWake = s.haltWake :=
  (busWrite_kept a v s).haltWake
@[simp] theorem busWrite_reg8 (a : Word) (v : Byte) (s : State) (r : Reg8) :
    (busWrite a v s).reg8 r = s.reg8 r := State.reg8_congr (busWrite_regs a v s) r

/-! ## Where the devices answer -/

theorem inRange_eq_true {a lo hi : Word} : inRange a lo hi = true ↔ lo.toNat ≤ a.toNat ∧ a.toNat ≤ hi.toNat := by
  simp [inRange]

theorem inRange_eq_false {a lo hi : Word} : inRange a lo hi = false ↔ a.toNat < lo.toNat ∨ hi.toNat < a.toNat := by
  rw [← Bool.not_eq_true, inRange_eq_true]
  omega

/-- The key in `mem` of a memory byte at address `a`: the echo's bytes are kept under WRAM's addresses. -/
def memKey (a : Word) : Nat := if inRange a 0xE000 0xFDFF then a.toNat - 0x2000 else a.toNat

/-- A bus read looks at the byte's key in memory, IE, IF, the register read, and what the two external devices
answer there. -/
theorem busRead_congr {s t : State} {b : Word}
    (mem : t.mem.read (memKey b) = s.mem.read (memKey b))
    (ext : extRead t b = extRead s b)
    (ie : b = 0xFFFF → t.ie = s.ie) (iflag : b = 0xFF0F → t.iflag = s.iflag)
    (timer : timerRead t b = timerRead s b) (lcd : displayReg t.lcd b = displayReg s.lcd b)
    (joypad : joypadRead t b = joypadRead s b) : busRead t b = busRead s b := by
  have key : ∀ lo hi : Word, (hi.toNat < 0xE000 ∨ 0xFDFF < lo.toNat) → inRange b lo hi = true →
      t.mem.read b.toNat = s.mem.read b.toNat := by
    intro lo hi h1 h2
    have : inRange b 0xE000 0xFDFF = false := by
      rw [inRange_eq_true] at h2
      rw [inRange_eq_false]
      simp only [BitVec.reduceToNat]
      omega
    simp only [memKey, this, Bool.false_eq_true, if_false] at mem
    exact mem
  have hw : wramRead t b = wramRead s b := by
    unfold wramRead; split
    · rw [key 0xC000 0xDFFF (by simp) ‹_›]
    · rfl
  have he : echoRead t b = echoRead s b := by
    unfold echoRead; split
    · rename_i h
      simp only [memKey, h, if_true] at mem
      exact congrArg some mem
    · rfl
  have hc : cpuRead t b = cpuRead s b := by
    unfold cpuRead; split
    · rw [ie ‹_›]
    · split
      · rw [iflag ‹_›]
      · split
        · rw [key 0xFF80 0xFFFE (by simp) ‹_›]
        · rfl
  have hd : displayRead t b = displayRead s b := by
    unfold displayRead; split
    · rw [key 0x8000 0x9FFF (by simp) ‹_›]
    · split
      · rw [key 0xFE00 0xFE9F (by simp) ‹_›]
      · exact lcd
  simp only [busRead, hw, he, hc, ext, timer, hd, joypad]

/-- Equal devices read alike. -/
theorem SameBus.read {s t : State} (h : SameBus s t) (b : Word) : busRead t b = busRead s b :=
  busRead_congr (by rw [h.mem]) (by rw [extRead, h.ext]; rfl) (fun _ => h.ie) (fun _ => h.iflag)
    (by simp [timerRead, h.timer]) (by rw [h.lcd]) (by rw [joypadRead, h.joypad]; rfl)

theorem SameBus.refl (s : State) : SameBus s s := ⟨rfl, rfl, rfl, rfl, rfl, rfl, rfl⟩

theorem SameBus.trans {s t u : State} (h : SameBus s t) (k : SameBus t u) : SameBus s u :=
  ⟨k.mem.trans h.mem, k.ie.trans h.ie, k.iflag.trans h.iflag, k.timer.trans h.timer, k.lcd.trans h.lcd,
    k.ext.trans h.ext, k.joypad.trans h.joypad⟩

theorem SameBus.kept {s t : State} (h : SameBus s t) : KeptBus s t := ⟨h, h.read⟩

end Sys2Proof.Machine
end

