-- ==== Sys2Proof/Laws/BusMap.lean ====
section
/-! SUPPORT. The address map (20_memory.md R115) as lemmas: what a bus read returns and what a bus write
does, region by region. -/

namespace Sys2Proof.Machine

theorem word_eq_iff {a k : Word} : a = k ↔ a.toNat = k.toNat := BitVec.toNat_inj.symm

/-- `a` lies outside a range. -/
theorem out_of {a lo hi : Word} (h : a.toNat < lo.toNat ∨ hi.toNat < a.toNat) : ¬inRange a lo hi = true := by
  rw [inRange_eq_true]; omega

/-- `a` lies in a range. -/
theorem in_of {a lo hi : Word} (h : lo.toNat ≤ a.toNat ∧ a.toNat ≤ hi.toNat) : inRange a lo hi = true :=
  inRange_eq_true.mpr h

theorem word_ne {a k : Word} (h : a.toNat ≠ k.toNat) : ¬a = k := fun e => h (word_eq_iff.mp e)

/-! ## A device outside its windows answers NONE and ignores writes (R102) -/

section silent
variable {a : Word}

theorem wramRead_none (s : State) (h : a.toNat < 0xC000 ∨ 0xDFFF < a.toNat) : wramRead s a = none :=
  if_neg (out_of h)

theorem wramWrite_id (s : State) (v : Byte) (h : a.toNat < 0xC000 ∨ 0xDFFF < a.toNat) :
    wramWrite a v s = s := if_neg (out_of h)

theorem echoRead_none (s : State) (h : a.toNat < 0xE000 ∨ 0xFDFF < a.toNat) : echoRead s a = none :=
  if_neg (out_of h)

theorem echoWrite_id (s : State) (v : Byte) (h : a.toNat < 0xE000 ∨ 0xFDFF < a.toNat) :
    echoWrite a v s = s := if_neg (out_of h)

theorem cpuRead_none (s : State) (h : a.toNat < 0xFF80) (k : a.toNat ≠ 0xFF0F) : cpuRead s a = none := by
  simp only [cpuRead, word_eq_iff, inRange_eq_true, BitVec.reduceToNat]
  repeat rw [if_neg (by omega)]

theorem cpuWrite_id (s : State) (v : Byte) (h : a.toNat < 0xFF80) (k : a.toNat ≠ 0xFF0F) :
    cpuWrite a v s = s := by
  simp only [cpuWrite, word_eq_iff, inRange_eq_true, BitVec.reduceToNat]
  repeat rw [if_neg (by omega)]

theorem timerRead_none (s : State) (h : a.toNat < 0xFF04 ∨ 0xFF07 < a.toNat) : timerRead s a = none := by
  simp only [timerRead, word_eq_iff, BitVec.reduceToNat]
  repeat rw [if_neg (by omega)]

theorem timerWrite_id (s : State) (v : Byte) (h : a.toNat < 0xFF04 ∨ 0xFF07 < a.toNat) :
    timerWrite a v s = s := by
  simp only [timerWrite, word_eq_iff, BitVec.reduceToNat]
  repeat rw [if_neg (by omega)]

theorem displayReg_none (d : Lcd) (h : a.toNat < 0xFF40 ∨ 0xFF4B < a.toNat) : displayReg d a = none := by
  simp only [displayReg, word_eq_iff, BitVec.reduceToNat]
  repeat rw [if_neg (by omega)]

theorem displayRead_reg (s : State) (h : a.toNat < 0x8000 ∨ 0x9FFF < a.toNat)
    (k : a.toNat < 0xFE00 ∨ 0xFE9F < a.toNat) : displayRead s a = displayReg s.lcd a :=
  (if_neg (out_of h)).trans (if_neg (out_of k))

theorem displayRead_none (s : State) (h : a.toNat < 0x8000 ∨ 0x9FFF < a.toNat)
    (k : a.toNat < 0xFE00 ∨ 0xFE9F < a.toNat) (r : a.toNat < 0xFF40 ∨ 0xFF4B < a.toNat) :
    displayRead s a = none := by
  rw [displayRead_reg s h k, displayReg_none s.lcd r]

theorem displayWrite_id (s : State) (v : Byte) (h : a.toNat < 0x8000 ∨ 0x9FFF < a.toNat)
    (k : a.toNat < 0xFE00 ∨ 0xFE9F < a.toNat) (r : a.toNat < 0xFF40 ∨ 0xFF4B < a.toNat ∨ a.toNat = 0xFF44) :
    displayWrite a v s = s := by
  simp only [displayWrite, word_eq_iff, inRange_eq_true, BitVec.reduceToNat]
  repeat rw [if_neg (by omega)]

/-! ### Ext and Joypad: a write changes the device alone, so an unchanged device is an unchanged machine -/

theorem inExtWindow_true : inExtWindow a = true ↔ a.toNat ≤ 0x7FFF ∨ (0xA000 ≤ a.toNat ∧ a.toNat ≤ 0xBFFF) := by
  simp [inExtWindow, inRange_eq_true]

theorem Ext.read_none (e : Ext) (h : 0x8000 ≤ a.toNat) (k : a.toNat < 0xA000 ∨ 0xBFFF < a.toNat) :
    e.read a = none := by
  cases e with
  | cartridge c =>
    simp only [Ext.read, Cartridge.read, Bool.and_eq_true, inRange_eq_true, BitVec.reduceToNat]
    repeat rw [if_neg (by omega)]
  | given st => exact if_neg (by rw [inExtWindow_true]; omega)

theorem Ext.write_id (e : Ext) (v : Byte) (h : 0x8000 ≤ a.toNat) (k : a.toNat < 0xA000 ∨ 0xBFFF < a.toNat)
    (o : a.toNat ≠ 0xFF50) : e.write a v = e := by
  cases e with
  | cartridge c =>
    simp only [Ext.write, Cartridge.write, Bool.and_eq_true, word_eq_iff, inRange_eq_true, BitVec.reduceToNat]
    repeat rw [if_neg (by omega)]
  | given st =>
    exact if_neg (by simp only [Bool.or_eq_true, decide_eq_true_eq, inExtWindow_true, word_eq_iff,
      BitVec.reduceToNat]; omega)

theorem extRead_none (s : State) (h : 0x8000 ≤ a.toNat) (k : a.toNat < 0xA000 ∨ 0xBFFF < a.toNat) :
    extRead s a = none := s.ext.read_none h k

theorem extWrite_id (s : State) (v : Byte) (o : a.toNat ≠ 0xFF50) (h : 0x8000 ≤ a.toNat)
    (k : a.toNat < 0xA000 ∨ 0xBFFF < a.toNat) : extWrite a v s = s :=
  congrArg (fun e => { s with ext := e }) (s.ext.write_id v h k o)

theorem joypadRead_none (s : State) (h : a.toNat ≠ 0xFF00) : joypadRead s a = none :=
  if_neg (word_ne h)

theorem Joypad.write_id (j : Joypad) (v : Byte) (h : a.toNat ≠ 0xFF00) : j.write a v = j := by
  cases j with
  | given st => exact if_neg (word_ne h)
  | _ => rfl

theorem joypadWrite_id (s : State) (v : Byte) (h : a.toNat ≠ 0xFF00) : joypadWrite a v s = s :=
  congrArg (fun j => { s with joypad := j }) (s.joypad.write_id v h)

/-! ### What a write to Ext leaves to read -/

/-- A flag and a window: false when the flag is or the address lies outside. -/
theorem and_out {f : Bool} {a lo hi : Word} (h : a.toNat < lo.toNat ∨ hi.toNat < a.toNat ∨ f = false) :
    ¬(f && inRange a lo hi) = true := by
  rw [Bool.and_eq_true, inRange_eq_true]
  rintro ⟨hf, hr⟩
  rcases h with h | h | h
  · omega
  · omega
  · rw [h] at hf; exact Bool.false_ne_true hf

/-- A cartridge's write: the toggle, one byte, or nothing. -/
theorem Cartridge.write_cases (c : Cartridge) (a : Word) (v : Byte) :
    (a = 0xFF50 ∧ c.write a v = { c with bootMapped := false })
      ∨ c.write a v = { c with bytes := c.bytes.write a.toNat v } ∨ c.write a v = c := by
  unfold Cartridge.write
  split
  · exact .inl ⟨‹_›, rfl⟩
  · split
    · exact .inr (.inl rfl)
    · split
      · exact .inr (.inl rfl)
      · exact .inr (.inr rfl)

/-- No write changes what kind of cartridge it is, and none covers it with the boot ROM again (R112). -/
theorem Cartridge.write_kept (c : Cartridge) (a : Word) (v : Byte) :
    (c.write a v).romWritable = c.romWritable ∧ (c.write a v).ramPresent = c.ramPresent
      ∧ (c.bootMapped = false → (c.write a v).bootMapped = false) ∧ (c.write a v).boot = c.boot := by
  obtain ⟨_, e⟩ | e | e := c.write_cases a v <;> rw [e]
  · exact ⟨rfl, rfl, fun _ => rfl, rfl⟩
  · exact ⟨rfl, rfl, id, rfl⟩
  · exact ⟨rfl, rfl, id, rfl⟩

/-- Ext answers as before wherever `Ext.reaches` does not say otherwise. -/
theorem Ext.read_write_other (e : Ext) (v : Byte) {b : Word} (hne : b ≠ a) (h : ¬e.reaches a b) :
    (e.write a v).read b = e.read b := by
  simp only [Ext.reaches, not_or] at h
  cases e with
  | cartridge c =>
    have hk : b.toNat ≠ a.toNat := fun x => hne (word_eq_iff.mpr x)
    simp only [Ext.write, Ext.read]
    obtain ⟨ha, e⟩ | e | e := c.write_cases a v <;> rw [e]
    · have hm : (c.bootMapped && inRange b 0x0000 0x00FF) = false := by
        rw [Bool.and_eq_false_iff, inRange_eq_false]
        simp only [BitVec.reduceToNat]
        by_cases m : c.bootMapped = true
        · exact .inr (.inr (Nat.lt_of_not_le fun x => h.1 ⟨c, rfl, m, ha, by omega⟩))
        · exact .inl (by simpa using m)
      simp only [Cartridge.read, hm, Bool.false_and]
    · simp only [Cartridge.read, Memory.read_write_other _ v hk]
  | given st =>
    unfold Ext.write
    dsimp only
    by_cases hw : (inExtWindow a || a = 0xFF50) = true
    · have hb : ¬inExtWindow b = true := fun x =>
        h.2 ⟨st, rfl, by simpa only [Bool.or_eq_true, decide_eq_true_eq] using hw, x⟩
      rw [if_pos hw]
      exact (if_neg hb).trans (if_neg hb).symm
    · rw [if_neg hw]

/-- Where Ext keeps what is written, it answers it (R112). -/
theorem Ext.read_write_same (e : Ext) (v : Byte) (h : e.keeps a) : (e.write a v).read a = some v := by
  obtain ⟨c, rfl, h⟩ := h
  have h50 : ¬a = 0xFF50 := word_ne (by simp only [BitVec.reduceToNat]; omega)
  have hw : c.write a v = { c with bytes := c.bytes.write a.toNat v } := by
    rcases h with ⟨h, w, _⟩ | ⟨h, k, r⟩
    · simp only [Cartridge.write, if_neg h50, w, Bool.true_and]
      exact if_pos (in_of ⟨Nat.zero_le _, Nat.le_of_lt_succ h⟩)
    · simp only [Cartridge.write, if_neg h50, r, Bool.true_and]
      rw [if_neg (and_out (.inr (.inl (by simp only [BitVec.reduceToNat]; omega)))),
        if_pos (in_of (by simp only [BitVec.reduceToNat]; omega))]
  simp only [Ext.write, Ext.read, hw, Cartridge.read]
  rcases h with ⟨h, _, m⟩ | ⟨h, k, r⟩
  · rw [if_neg (and_out (m.elim (.inr ∘ .inr) (fun m => .inr (.inl (by simp only [BitVec.reduceToNat]; omega))))),
      if_pos (in_of ⟨Nat.zero_le _, Nat.le_of_lt_succ h⟩), Memory.read_write_same]
  · rw [if_neg (and_out (.inr (.inl (by simp only [BitVec.reduceToNat]; omega)))),
      if_neg (out_of (.inr (by simp only [BitVec.reduceToNat]; omega))), r, Bool.true_and,
      if_pos (in_of (by simp only [BitVec.reduceToNat]; omega)), Memory.read_write_same]

/-- Ext's canonical form is kept by every write to it. -/
theorem Ext.write_wf {e : Ext} (a : Word) (v : Byte) (h : e.wf = true) : (e.write a v).wf = true := by
  cases e with
  | cartridge c =>
    simp only [Ext.wf, Ext.write, Bool.and_eq_true] at h ⊢
    obtain ⟨_, e⟩ | e | e := c.write_cases a v <;> rw [e]
    · exact h
    · exact ⟨Memory.write_wf _ _ h.1, h.2⟩
    · exact h
  | given st =>
    simp only [Ext.write]
    split <;> rfl

end silent

/-! ## Reads -/

section reads
variable (s : State) {a : Word}

theorem firstAnswer_none (l : List (Option Byte)) : firstAnswer (none :: l) = firstAnswer l := rfl

theorem firstAnswer_some (v : Byte) (l : List (Option Byte)) : firstAnswer (some v :: l) = v := rfl

theorem busRead_wram (h : 0xC000 ≤ a.toNat) (k : a.toNat ≤ 0xDFFF) : busRead s a = s.mem.read a.toNat := by
  rw [busRead, show wramRead s a = some (s.mem.read a.toNat) from if_pos (in_of (lo := 0xC000) (hi := 0xDFFF) ⟨h, k⟩),
    firstAnswer_some]

theorem busRead_echo (h : 0xE000 ≤ a.toNat) (k : a.toNat ≤ 0xFDFF) :
    busRead s a = s.mem.read (a.toNat - 0x2000) := by
  rw [busRead, wramRead_none s (by omega), firstAnswer_none,
    show echoRead s a = some (s.mem.read (a.toNat - 0x2000)) from if_pos (in_of (lo := 0xE000) (hi := 0xFDFF) ⟨h, k⟩),
    firstAnswer_some]

theorem busRead_hram (h : 0xFF80 ≤ a.toNat) (k : a.toNat ≤ 0xFFFE) : busRead s a = s.mem.read a.toNat := by
  have : cpuRead s a = some (s.mem.read a.toNat) := by
    simp only [cpuRead, word_eq_iff, inRange_eq_true, BitVec.reduceToNat]
    rw [if_neg (by omega), if_neg (by omega), if_pos ⟨h, k⟩]
  rw [busRead, wramRead_none s (by omega), echoRead_none s (by omega), this]
  rfl

theorem busRead_ie : busRead s 0xFFFF = s.ie := rfl

theorem busRead_iflag : busRead s 0xFF0F = s.iflag := rfl

/-- In Ext's windows a read is Ext's answer, 0xFF where it answers NONE (R103, R116). -/
theorem busRead_ext (h : a.toNat < 0x8000 ∨ (0xA000 ≤ a.toNat ∧ a.toNat ≤ 0xBFFF)) :
    busRead s a = (s.ext.read a).getD 0xFF := by
  rw [busRead, wramRead_none s (by omega), echoRead_none s (by omega), cpuRead_none s (by omega) (by omega),
    timerRead_none s (by omega), displayRead_none s (by omega) (by omega) (by omega), joypadRead_none s (by omega),
    extRead]
  cases s.ext.read a <;> rfl

/-- At 0xFF00 a read is the Joypad's answer, 0xFF where it answers NONE (R103, R116). -/
theorem busRead_joypad : busRead s 0xFF00 = (s.joypad.read 0xFF00).getD 0xFF := by
  rw [busRead, wramRead_none s (by simp), echoRead_none s (by simp), cpuRead_none s (by simp) (by simp),
    extRead_none s (by simp) (by simp), timerRead_none s (by simp),
    displayRead_none s (by simp) (by simp) (by simp), joypadRead]
  cases s.joypad.read 0xFF00 <;> rfl

theorem busRead_video (h : (0x8000 ≤ a.toNat ∧ a.toNat ≤ 0x9FFF) ∨ (0xFE00 ≤ a.toNat ∧ a.toNat ≤ 0xFE9F)) :
    busRead s a = s.mem.read a.toNat := by
  have : displayRead s a = some (s.mem.read a.toNat) := by
    unfold displayRead
    rcases h with h | h
    · rw [if_pos (in_of (lo := 0x8000) (hi := 0x9FFF) h)]
    · rw [if_neg (out_of (lo := 0x8000) (hi := 0x9FFF) (.inr (by simp only [BitVec.reduceToNat]; omega))),
        if_pos (in_of (lo := 0xFE00) (hi := 0xFE9F) h)]
  rw [busRead, wramRead_none s (by omega), echoRead_none s (by omega), cpuRead_none s (by omega) (by omega),
    extRead_none s (by omega) (by omega), timerRead_none s (by omega), this]
  rfl

/-- A read of a timer register (R113). -/
theorem busRead_timer {v : Byte} (h : 0xFF04 ≤ a.toNat) (k : a.toNat ≤ 0xFF07) (e : timerRead s a = some v) :
    busRead s a = v := by
  rw [busRead, wramRead_none s (by omega), echoRead_none s (by omega), cpuRead_none s (by omega) (by omega),
    extRead_none s (by omega) (by omega), e]
  rfl

/-- A read of a display register (R60, R114). -/
theorem busRead_displayReg {v : Byte} (h : 0xFF40 ≤ a.toNat) (k : a.toNat ≤ 0xFF4B)
    (e : displayReg s.lcd a = some v) : busRead s a = v := by
  rw [busRead, wramRead_none s (by omega), echoRead_none s (by omega), cpuRead_none s (by omega) (by omega),
    extRead_none s (by omega) (by omega), timerRead_none s (by omega), displayRead_reg s (by omega) (by omega), e]
  rfl

/-- "An address mapped by no device reads as 0xFF" (R116). -/
theorem busRead_unmapped
    (h : (0xFEA0 ≤ a.toNat ∧ a.toNat ≤ 0xFEFF)
      ∨ (0xFF01 ≤ a.toNat ∧ a.toNat ≤ 0xFF03)
      ∨ (0xFF08 ≤ a.toNat ∧ a.toNat ≤ 0xFF0E)
      ∨ (0xFF10 ≤ a.toNat ∧ a.toNat ≤ 0xFF3F) ∨ (0xFF4C ≤ a.toNat ∧ a.toNat ≤ 0xFF7F)) :
    busRead s a = 0xFF := by
  rw [busRead, wramRead_none s (by omega), echoRead_none s (by omega), cpuRead_none s (by omega) (by omega),
    extRead_none s (by omega) (by omega), timerRead_none s (by omega),
    displayRead_none s (by omega) (by omega) (by omega), joypadRead_none s (by omega)]
  rfl

end reads

/-! ## Writes -/

section writes
variable (s : State) {a : Word} (v : Byte)

theorem busWrite_wram (h : 0xC000 ≤ a.toNat) (k : a.toNat ≤ 0xDFFF) :
    busWrite a v s = { s with mem := s.mem.write a.toNat v } := by
  have : wramWrite a v s = { s with mem := s.mem.write a.toNat v } :=
    if_pos (in_of (lo := 0xC000) (hi := 0xDFFF) ⟨h, k⟩)
  rw [busWrite, this, echoWrite_id _ _ (by omega), cpuWrite_id _ _ (by omega) (by omega),
    extWrite_id _ _ (by omega) (by omega) (by omega), timerWrite_id _ _ (by omega),
    displayWrite_id _ _ (by omega) (by omega) (by omega), joypadWrite_id _ _ (by omega)]

theorem busWrite_echo (h : 0xE000 ≤ a.toNat) (k : a.toNat ≤ 0xFDFF) :
    busWrite a v s = { s with mem := s.mem.write (a.toNat - 0x2000) v } := by
  have : echoWrite a v s = { s with mem := s.mem.write (a.toNat - 0x2000) v } :=
    if_pos (in_of (lo := 0xE000) (hi := 0xFDFF) ⟨h, k⟩)
  rw [busWrite, wramWrite_id _ _ (by omega), this, cpuWrite_id _ _ (by omega) (by omega),
    extWrite_id _ _ (by omega) (by omega) (by omega), timerWrite_id _ _ (by omega),
    displayWrite_id _ _ (by omega) (by omega) (by omega), joypadWrite_id _ _ (by omega)]

/-- A write to the processor's window reaches the processor only. -/
theorem busWrite_cpu (h : 0xFF80 ≤ a.toNat ∨ a.toNat = 0xFF0F) : busWrite a v s = cpuWrite a v s := by
  rw [busWrite, wramWrite_id _ _ (by omega), echoWrite_id _ _ (by omega),
    extWrite_id _ _ (by omega) (by omega) (by omega), timerWrite_id _ _ (by omega),
    displayWrite_id _ _ (by omega) (by omega) (by omega), joypadWrite_id _ _ (by omega)]

theorem busWrite_hram (h : 0xFF80 ≤ a.toNat) (k : a.toNat ≤ 0xFFFE) :
    busWrite a v s = { s with mem := s.mem.write a.toNat v } := by
  rw [busWrite_cpu s v (.inl h)]
  simp only [cpuWrite, word_eq_iff, inRange_eq_true, BitVec.reduceToNat]
  rw [if_neg (by omega), if_neg (by omega), if_pos ⟨h, k⟩]

theorem busWrite_ie : busWrite 0xFFFF v s = { s with ie := v } := busWrite_cpu s v (by simp)

theorem busWrite_iflag : busWrite 0xFF0F v s = { s with iflag := v } := busWrite_cpu s v (by simp)

/-- A write to Ext's windows or to 0xFF50 reaches Ext only. -/
theorem busWrite_ext (h : a.toNat < 0x8000 ∨ (0xA000 ≤ a.toNat ∧ a.toNat ≤ 0xBFFF) ∨ a.toNat = 0xFF50) :
    busWrite a v s = { s with ext := s.ext.write a v } := by
  rw [busWrite, wramWrite_id _ _ (by omega), echoWrite_id _ _ (by omega), cpuWrite_id _ _ (by omega) (by omega),
    timerWrite_id _ _ (by omega), displayWrite_id _ _ (by omega) (by omega) (by omega),
    joypadWrite_id _ _ (by omega), extWrite]

/-- A write to 0xFF00 reaches the Joypad only. -/
theorem busWrite_joypad : busWrite 0xFF00 v s = { s with joypad := s.joypad.write 0xFF00 v } := by
  rw [busWrite, wramWrite_id _ _ (by simp), echoWrite_id _ _ (by simp), cpuWrite_id _ _ (by simp) (by simp),
    extWrite_id _ _ (by simp) (by simp) (by simp), timerWrite_id _ _ (by simp),
    displayWrite_id _ _ (by simp) (by simp) (by simp), joypadWrite]

/-- A write to the timer's registers reaches the timer only. -/
theorem busWrite_timer (h : 0xFF04 ≤ a.toNat) (k : a.toNat ≤ 0xFF07) : busWrite a v s = timerWrite a v s := by
  rw [busWrite, wramWrite_id _ _ (by omega), echoWrite_id _ _ (by omega), cpuWrite_id _ _ (by omega) (by omega),
    extWrite_id _ _ (by omega) (by omega) (by omega), displayWrite_id _ _ (by omega) (by omega) (by omega),
    joypadWrite_id _ _ (by omega)]

theorem busWrite_div : busWrite 0xFF04 v s = writeDiv s := busWrite_timer s v (by simp) (by simp)

theorem busWrite_tima : busWrite 0xFF05 v s = { s with timer := { s.timer with tima := v } } :=
  busWrite_timer s v (by simp) (by simp)

theorem busWrite_tma : busWrite 0xFF06 v s = { s with timer := { s.timer with tma := v } } :=
  busWrite_timer s v (by simp) (by simp)

theorem busWrite_tac : busWrite 0xFF07 v s = writeTac v s := busWrite_timer s v (by simp) (by simp)

/-- A write to the display's windows reaches the display controller only. -/
theorem busWrite_display
    (h : (0x8000 ≤ a.toNat ∧ a.toNat ≤ 0x9FFF) ∨ (0xFE00 ≤ a.toNat ∧ a.toNat ≤ 0xFE9F)
      ∨ (0xFF40 ≤ a.toNat ∧ a.toNat ≤ 0xFF4B)) : busWrite a v s = displayWrite a v s := by
  rw [busWrite, wramWrite_id _ _ (by omega), echoWrite_id _ _ (by omega), cpuWrite_id _ _ (by omega) (by omega),
    extWrite_id _ _ (by omega) (by omega) (by omega), timerWrite_id _ _ (by omega), joypadWrite_id _ _ (by omega)]

theorem busWrite_video (h : (0x8000 ≤ a.toNat ∧ a.toNat ≤ 0x9FFF) ∨ (0xFE00 ≤ a.toNat ∧ a.toNat ≤ 0xFE9F)) :
    busWrite a v s = { s with mem := s.mem.write a.toNat v } := by
  rw [busWrite_display s v (by omega)]
  unfold displayWrite
  rcases h with h | h
  · rw [if_pos (in_of (lo := 0x8000) (hi := 0x9FFF) h)]
  · rw [if_neg (out_of (lo := 0x8000) (hi := 0x9FFF) (.inr (by simp only [BitVec.reduceToNat]; omega))),
      if_pos (in_of (lo := 0xFE00) (hi := 0xFE9F) h)]

theorem busWrite_lcdc : busWrite 0xFF40 v s = writeLcdc v s := busWrite_display s v (by simp)
theorem busWrite_stat : busWrite 0xFF41 v s = writeStat v s := busWrite_display s v (by simp)
theorem busWrite_scy : busWrite 0xFF42 v s = { s with lcd := { s.lcd with scy := v } } :=
  busWrite_display s v (by simp)
theorem busWrite_scx : busWrite 0xFF43 v s = { s with lcd := { s.lcd with scx := v } } :=
  busWrite_display s v (by simp)
theorem busWrite_lyc : busWrite 0xFF45 v s = writeLyc v s := busWrite_display s v (by simp)
theorem busWrite_dma : busWrite 0xFF46 v s = writeDma v s := busWrite_display s v (by simp)
theorem busWrite_bgp : busWrite 0xFF47 v s = { s with lcd := { s.lcd with bgp := v } } :=
  busWrite_display s v (by simp)
theorem busWrite_obp0 : busWrite 0xFF48 v s = { s with lcd := { s.lcd with obp0 := v } } :=
  busWrite_display s v (by simp)
theorem busWrite_obp1 : busWrite 0xFF49 v s = { s with lcd := { s.lcd with obp1 := v } } :=
  busWrite_display s v (by simp)
theorem busWrite_wy : busWrite 0xFF4A v s = { s with lcd := { s.lcd with wy := v } } :=
  busWrite_display s v (by simp)
theorem busWrite_wx : busWrite 0xFF4B v s = { s with lcd := { s.lcd with wx := v } } :=
  busWrite_display s v (by simp)

/-- A write to an address where no device takes it changes nothing (R105). -/
theorem busWrite_nowhere
    (h : (0xFEA0 ≤ a.toNat ∧ a.toNat ≤ 0xFEFF) ∨ (0xFF01 ≤ a.toNat ∧ a.toNat ≤ 0xFF03)
      ∨ (0xFF08 ≤ a.toNat ∧ a.toNat ≤ 0xFF0E)
      ∨ (0xFF10 ≤ a.toNat ∧ a.toNat ≤ 0xFF3F) ∨ a.toNat = 0xFF44
      ∨ (0xFF4C ≤ a.toNat ∧ a.toNat ≤ 0xFF4F) ∨ (0xFF51 ≤ a.toNat ∧ a.toNat ≤ 0xFF7F)) :
    busWrite a v s = s := by
  rw [busWrite, wramWrite_id _ _ (by omega), echoWrite_id _ _ (by omega), cpuWrite_id _ _ (by omega) (by omega),
    extWrite_id _ _ (by omega) (by omega) (by omega), timerWrite_id _ _ (by omega),
    displayWrite_id _ _ (by omega) (by omega) (by omega), joypadWrite_id _ _ (by omega)]

end writes

/-- The regions a write can fall in: every case of the address map. -/
inductive WriteCase (a : Word) : Prop where
  | ext (h : a.toNat < 0x8000 ∨ (0xA000 ≤ a.toNat ∧ a.toNat ≤ 0xBFFF) ∨ a.toNat = 0xFF50)
  | joypad (e : a = 0xFF00)
  | video (h : (0x8000 ≤ a.toNat ∧ a.toNat ≤ 0x9FFF) ∨ (0xFE00 ≤ a.toNat ∧ a.toNat ≤ 0xFE9F))
  | wram (h : 0xC000 ≤ a.toNat) (k : a.toNat ≤ 0xDFFF)
  | echo (h : 0xE000 ≤ a.toNat) (k : a.toNat ≤ 0xFDFF)
  | hram (h : 0xFF80 ≤ a.toNat) (k : a.toNat ≤ 0xFFFE)
  | nowhere (h : (0xFEA0 ≤ a.toNat ∧ a.toNat ≤ 0xFEFF) ∨ (0xFF01 ≤ a.toNat ∧ a.toNat ≤ 0xFF03)
      ∨ (0xFF08 ≤ a.toNat ∧ a.toNat ≤ 0xFF0E)
      ∨ (0xFF10 ≤ a.toNat ∧ a.toNat ≤ 0xFF3F) ∨ a.toNat = 0xFF44
      ∨ (0xFF4C ≤ a.toNat ∧ a.toNat ≤ 0xFF4F) ∨ (0xFF51 ≤ a.toNat ∧ a.toNat ≤ 0xFF7F))
  | reg (k : Word) (e : a = k)
      (m : k ∈ ([0xFFFF, 0xFF0F, 0xFF04, 0xFF05, 0xFF06, 0xFF07, 0xFF40, 0xFF41, 0xFF42, 0xFF43, 0xFF45,
        0xFF46, 0xFF47, 0xFF48, 0xFF49, 0xFF4A, 0xFF4B] : List Word))

theorem writeCase (a : Word) : WriteCase a := by
  have hlt := a.isLt
  by_cases h1 : a.toNat < 0x8000
  · exact .ext (.inl h1)
  by_cases h2 : a.toNat ≤ 0x9FFF
  · exact .video (by omega)
  by_cases h3 : a.toNat ≤ 0xBFFF
  · exact .ext (.inr (.inl ⟨by omega, h3⟩))
  by_cases h4 : a.toNat ≤ 0xDFFF
  · exact .wram (by omega) h4
  by_cases h5 : a.toNat ≤ 0xFDFF
  · exact .echo (by omega) h5
  by_cases h6 : a.toNat ≤ 0xFE9F
  · exact .video (by omega)
  by_cases h7 : 0xFF80 ≤ a.toNat ∧ a.toNat ≤ 0xFFFE
  · exact .hram h7.1 h7.2
  by_cases h9 : a.toNat = 0xFF50
  · exact .ext (.inr (.inr h9))
  by_cases h10 : a = 0xFF00
  · exact .joypad h10
  simp only [word_eq_iff, BitVec.reduceToNat] at h10
  by_cases h8 : (0xFEA0 ≤ a.toNat ∧ a.toNat ≤ 0xFEFF) ∨ (0xFF01 ≤ a.toNat ∧ a.toNat ≤ 0xFF03)
      ∨ (0xFF08 ≤ a.toNat ∧ a.toNat ≤ 0xFF0E)
      ∨ (0xFF10 ≤ a.toNat ∧ a.toNat ≤ 0xFF3F) ∨ a.toNat = 0xFF44
      ∨ (0xFF4C ≤ a.toNat ∧ a.toNat ≤ 0xFF4F) ∨ (0xFF51 ≤ a.toNat ∧ a.toNat ≤ 0xFF7F)
  · exact .nowhere h8
  · refine .reg a rfl ?_
    simp only [List.mem_cons, word_eq_iff, BitVec.reduceToNat, List.not_mem_nil, or_false]
    omega

/-- The display's hidden state, its control, status and line registers are as before. -/
structure Lcd.SameMachine (d e : Lcd) : Prop where
  lcdc    : e.lcdc = d.lcdc
  stat    : e.stat = d.stat
  ly      : e.ly = d.ly
  next    : e.next = d.next
  winY    : e.winY = d.winY
  lineBuf : e.lineBuf = d.lineBuf
  image   : e.image = d.image
  dmaSrc  : e.dmaSrc = d.dmaSrc
  dmaIdx  : e.dmaIdx = d.dmaIdx

/-- Everything a bus write can do. -/
inductive BusEffect (s t : State) : Prop where
  | nothing (e : t = s)
  | memory (k : Nat) (v : Byte) (e : t = { s with mem := s.mem.write k v })
  | ie (v : Byte) (e : t = { s with ie := v })
  | iflag (v : Byte) (e : t = { s with iflag := v })
  | ext (a : Word) (v : Byte) (e : t = { s with ext := s.ext.write a v })
  | joypad (a : Word) (v : Byte) (e : t = { s with joypad := s.joypad.write a v })
  | timerCell (u : Timer) (div : u.tDiv = s.timer.tDiv) (e : t = { s with timer := u })
  | div (e : t = writeDiv s)
  | tac (v : Byte) (e : t = writeTac v s)
  | lcdc (v : Byte) (e : t = writeLcdc v s)
  | stat (v : Byte) (e : t = writeStat v s)
  | lyc (v : Byte) (e : t = writeLyc v s)
  | dma (v : Byte) (e : t = writeDma v s)
  | lcdCell (d : Lcd) (same : s.lcd.SameMachine d) (e : t = { s with lcd := d })

/-- Say once what a bus write can do (R104, R110 to R114, R602). -/
theorem busWrite_effect (a : Word) (v : Byte) (s : State) : BusEffect s (busWrite a v s) := by
  rcases writeCase a with h1 | rfl | h1 | ⟨h1, h2⟩ | ⟨h1, h2⟩ | ⟨h1, h2⟩ | h1 | ⟨k, rfl, hk⟩
  · exact .ext a v (busWrite_ext s v h1)
  · exact .joypad 0xFF00 v (busWrite_joypad s v)
  · exact .memory _ _ (busWrite_video s v h1)
  · exact .memory _ _ (busWrite_wram s v h1 h2)
  · exact .memory _ _ (busWrite_echo s v h1 h2)
  · exact .memory _ _ (busWrite_hram s v h1 h2)
  · exact .nothing (busWrite_nowhere s v h1)
  · simp only [List.mem_cons, List.not_mem_nil, or_false] at hk
    rcases hk with rfl | rfl | rfl | rfl | rfl | rfl | rfl | rfl | rfl | rfl | rfl | rfl | rfl | rfl | rfl | rfl |
      rfl
    · exact .ie v (busWrite_ie s v)
    · exact .iflag v (busWrite_iflag s v)
    · exact .div (busWrite_div s v)
    · exact .timerCell { s.timer with tima := v } rfl (busWrite_tima s v)
    · exact .timerCell { s.timer with tma := v } rfl (busWrite_tma s v)
    · exact .tac v (busWrite_tac s v)
    · exact .lcdc v (busWrite_lcdc s v)
    · exact .stat v (busWrite_stat s v)
    · exact .lcdCell { s.lcd with scy := v } ⟨rfl, rfl, rfl, rfl, rfl, rfl, rfl, rfl, rfl⟩ (busWrite_scy s v)
    · exact .lcdCell { s.lcd with scx := v } ⟨rfl, rfl, rfl, rfl, rfl, rfl, rfl, rfl, rfl⟩ (busWrite_scx s v)
    · exact .lyc v (busWrite_lyc s v)
    · exact .dma v (busWrite_dma s v)
    · exact .lcdCell { s.lcd with bgp := v } ⟨rfl, rfl, rfl, rfl, rfl, rfl, rfl, rfl, rfl⟩ (busWrite_bgp s v)
    · exact .lcdCell { s.lcd with obp0 := v } ⟨rfl, rfl, rfl, rfl, rfl, rfl, rfl, rfl, rfl⟩ (busWrite_obp0 s v)
    · exact .lcdCell { s.lcd with obp1 := v } ⟨rfl, rfl, rfl, rfl, rfl, rfl, rfl, rfl, rfl⟩ (busWrite_obp1 s v)
    · exact .lcdCell { s.lcd with wy := v } ⟨rfl, rfl, rfl, rfl, rfl, rfl, rfl, rfl, rfl⟩ (busWrite_wy s v)
    · exact .lcdCell { s.lcd with wx := v } ⟨rfl, rfl, rfl, rfl, rfl, rfl, rfl, rfl, rfl⟩ (busWrite_wx s v)

end Sys2Proof.Machine
end

