-- ==== Sys2Proof/Laws/Decode.lean ====
section
/-! SUPPORT. The decoder against the encoder, one row at a time: what each opcode byte's row gives. -/

namespace Sys2Proof

open Sys2Proof.Machine

/-- An encoding is at most three bytes. -/
theorem encode_length (i : Instr) : (encode i).length ≤ 3 := by
  cases i <;> exact Nat.le_of_ble_eq_true rfl

/-- What the opcode byte's row says of the encoder. -/
def ShapeLaw (op : Byte) : Shape → Prop
  | .op i => i.wellFormed = true ∧ encode i = [op] ∧ opcodeLength op = 1
  | .imm8 mk => (∀ n, (mk n).wellFormed = true ∧ encode (mk n) = [op, n]) ∧ opcodeLength op = 2
  | .imm16 mk => (∀ n, (mk n).wellFormed = true ∧ encode (mk n) = [op, lo8 n, hi8 n]) ∧ opcodeLength op = 3
  | .cbEscape => op = 0xCB

/-- Every opcode byte: what the decoder fixes re-encodes to it, with the length of R177. -/
theorem shape_law (op : Byte) : ShapeLaw op (decodeDirect op) := by
  have h : ∀ k : Fin 256, ShapeLaw (BitVec.ofFin k) (decodeDirect (BitVec.ofFin k)) := by
    intro k
    fin_cases k
    all_goals first
      | exact ⟨rfl, rfl, rfl⟩
      | exact ⟨fun n => ⟨rfl, rfl⟩, rfl⟩
      | exact rfl
  exact h op.toFin

/-- Every second byte of a prefixed instruction. -/
theorem prefixed_law (op2 : Byte) :
    (decodePrefixed op2).wellFormed = true ∧ encode (decodePrefixed op2) = [0xCB, op2] := by
  have h : ∀ k : Fin 256, (decodePrefixed (BitVec.ofFin k)).wellFormed = true
      ∧ encode (decodePrefixed (BitVec.ofFin k)) = [0xCB, BitVec.ofFin k] := by
    intro k
    fin_cases k <;> exact ⟨rfl, rfl⟩
  exact h op2.toFin

end Sys2Proof
end

