-- ==== Sys2Proof/Laws/Store.lean ====
section
/-! SUPPORT. What a store does: which fields of the devices an action touches, what reads back, and that
every byte a store does not reach reads as before. -/

namespace Sys2Proof.Machine

/-! ## The timer's and the display's actions, field by field -/

@[simp] theorem timaTick_mem (s : State) : (timaTick s).mem = s.mem := by unfold timaTick; split <;> rfl
@[simp] theorem timaTick_lcd (s : State) : (timaTick s).lcd = s.lcd := by unfold timaTick; split <;> rfl
@[simp] theorem timaTick_ext (s : State) : (timaTick s).ext = s.ext := by unfold timaTick; split <;> rfl
@[simp] theorem timaTick_joypad (s : State) : (timaTick s).joypad = s.joypad := by
  unfold timaTick; split <;> rfl
@[simp] theorem timaTick_ie (s : State) : (timaTick s).ie = s.ie := by unfold timaTick; split <;> rfl
@[simp] theorem timaTick_tDiv (s : State) : (timaTick s).timer.tDiv = s.timer.tDiv := by
  unfold timaTick; split <;> rfl
@[simp] theorem timaTick_tma (s : State) : (timaTick s).timer.tma = s.timer.tma := by
  unfold timaTick; split <;> rfl
@[simp] theorem timaTick_tac (s : State) : (timaTick s).timer.tac = s.timer.tac := by
  unfold timaTick; split <;> rfl

@[simp] theorem timerEdge_mem (t : Timer) (s : State) : (timerEdge t s).mem = s.mem := by
  unfold timerEdge; dsimp only; split
  · exact timaTick_mem _
  · rfl
@[simp] theorem timerEdge_lcd (t : Timer) (s : State) : (timerEdge t s).lcd = s.lcd := by
  unfold timerEdge; dsimp only; split
  · exact timaTick_lcd _
  · rfl
@[simp] theorem timerEdge_ext (t : Timer) (s : State) : (timerEdge t s).ext = s.ext := by
  unfold timerEdge; dsimp only; split
  · exact timaTick_ext _
  · rfl
@[simp] theorem timerEdge_joypad (t : Timer) (s : State) : (timerEdge t s).joypad = s.joypad := by
  unfold timerEdge; dsimp only; split
  · exact timaTick_joypad _
  · rfl
@[simp] theorem timerEdge_ie (t : Timer) (s : State) : (timerEdge t s).ie = s.ie := by
  unfold timerEdge; dsimp only; split
  · exact timaTick_ie _
  · rfl
@[simp] theorem timerEdge_tDiv (t : Timer) (s : State) : (timerEdge t s).timer.tDiv = t.tDiv := by
  unfold timerEdge; dsimp only; split
  · exact timaTick_tDiv _
  · rfl
@[simp] theorem timerEdge_tma (t : Timer) (s : State) : (timerEdge t s).timer.tma = t.tma := by
  unfold timerEdge; dsimp only; split
  · exact timaTick_tma _
  · rfl
@[simp] theorem timerEdge_tac (t : Timer) (s : State) : (timerEdge t s).timer.tac = t.tac := by
  unfold timerEdge; dsimp only; split
  · exact timaTick_tac _
  · rfl

/-- An action of the display controller leaves the memories and every other device alone, and the display's
registers become `d`. -/
structure LcdActed (s t : State) (d : Lcd) : Prop where
  mem    : t.mem = s.mem
  ie     : t.ie = s.ie
  timer  : t.timer = s.timer
  ext    : t.ext = s.ext
  joypad : t.joypad = s.joypad
  lcd    : t.lcd = d

theorem setMode_acted (m : BitVec 2) (s : State) : LcdActed s (setMode m s) (s.lcd.withMode m) := by
  unfold setMode; dsimp only; split <;> constructor <;> rfl

/-- The coincidence bit recomputed (R606). -/
def Lcd.compared (d : Lcd) : Lcd :=
  { d with stat := if d.ly = d.lyc then d.stat ||| 0x04 else d.stat &&& 0xFB }

theorem coincidence_acted (s : State) : LcdActed s (coincidence s) s.lcd.compared := by
  unfold coincidence Lcd.compared; dsimp only; split
  · split <;> constructor <;> rfl
  · constructor <;> rfl

theorem setLy_acted (n : Byte) (s : State) : LcdActed s (setLy n s) ({ s.lcd with ly := n } : Lcd).compared := by
  have h := coincidence_acted { s with lcd := { s.lcd with ly := n } }
  exact ⟨h.mem, h.ie, h.timer, h.ext, h.joypad, h.lcd⟩

theorem powerOff_acted (s : State) :
    LcdActed s (powerOff s) { ({ s.lcd.withMode 0 with ly := 0 } : Lcd).compared with next := none } := by
  have h := setLy_acted 0 { s with lcd := s.lcd.withMode 0 }
  exact ⟨h.mem, h.ie, h.timer, h.ext, h.joypad, by unfold powerOff; dsimp only; rw [h.lcd]⟩

theorem writeLcdc_acted (v : Byte) (s : State) :
    LcdActed s (writeLcdc v s) (if v.getLsbD 7 then { s.lcd with lcdc := v }
      else { ({ ({ s.lcd with lcdc := v } : Lcd).withMode 0 with ly := 0 } : Lcd).compared with next := none }) := by
  unfold writeLcdc; dsimp only; split
  · constructor <;> rfl
  · have h := powerOff_acted { s with lcd := { s.lcd with lcdc := v } }
    exact ⟨h.mem, h.ie, h.timer, h.ext, h.joypad, h.lcd⟩

theorem writeLyc_acted (v : Byte) (s : State) :
    LcdActed s (writeLyc v s) ({ s.lcd with lyc := v } : Lcd).compared := by
  have h := coincidence_acted { s with lcd := { s.lcd with lyc := v } }
  exact ⟨h.mem, h.ie, h.timer, h.ext, h.joypad, h.lcd⟩

/-! ## A memory write seen through the bus -/

theorem memKey_cases (b : Word) :
    (0xE000 ≤ b.toNat ∧ b.toNat ≤ 0xFDFF ∧ memKey b = b.toNat - 0x2000)
      ∨ ((b.toNat < 0xE000 ∨ 0xFDFF < b.toNat) ∧ memKey b = b.toNat) := by
  unfold memKey
  split
  · rename_i h
    rw [inRange_eq_true] at h
    simp only [BitVec.reduceToNat] at h
    exact .inl ⟨h.1, h.2, rfl⟩
  · rename_i h
    rw [Bool.not_eq_true, inRange_eq_false] at h
    simp only [BitVec.reduceToNat] at h
    exact .inr ⟨h, rfl⟩

theorem busRead_memWrite_other (s : State) {k : Nat} (v : Byte) {b : Word} (h : memKey b ≠ k) :
    busRead { s with mem := s.mem.write k v } b = busRead s b :=
  busRead_congr (Memory.read_write_other _ v h) rfl (fun _ => rfl) (fun _ => rfl) rfl rfl rfl

/-- What a read of one register sees of a change to another. -/
theorem displayReg_stat (d : Lcd) (x : Byte) {b : Word} (h : b ≠ 0xFF41) :
    displayReg { d with stat := x } b = displayReg d b := by
  simp only [displayReg, if_neg h]

theorem displayReg_ly (d : Lcd) (x : Byte) {b : Word} (h : b ≠ 0xFF44) :
    displayReg { d with ly := x } b = displayReg d b := by
  simp only [displayReg, if_neg h]

theorem displayReg_lcdc (d : Lcd) (x : Byte) {b : Word} (h : b ≠ 0xFF40) :
    displayReg { d with lcdc := x } b = displayReg d b := by
  simp only [displayReg, if_neg h]

theorem displayReg_compared (d : Lcd) {b : Word} (h : b ≠ 0xFF41) :
    displayReg d.compared b = displayReg d b := displayReg_stat d _ h

/-- Where memory and the external devices are as before, a read is decided by the display's registers, the
timer's, IE and IF. -/
theorem busRead_of_regs {s t : State} {b : Word} (mem : t.mem = s.mem) (ext : t.ext = s.ext)
    (joypad : t.joypad = s.joypad)
    (ie : b = 0xFFFF → t.ie = s.ie) (iflag : b = 0xFF0F → t.iflag = s.iflag)
    (timer : timerRead t b = timerRead s b) (lcd : displayReg t.lcd b = displayReg s.lcd b) :
    busRead t b = busRead s b :=
  busRead_congr (by rw [mem]) (by rw [extRead, ext]; rfl) ie iflag timer lcd (by rw [joypadRead, joypad]; rfl)

theorem timerEdge_read (t : Timer) (s : State) {b : Word} (h5 : b ≠ 0xFF05) (hf : b ≠ 0xFF0F)
    (hd : b ≠ 0xFF04 ∨ t.tDiv = s.timer.tDiv) (hm : t.tma = s.timer.tma)
    (hc : b ≠ 0xFF07 ∨ t.tac = s.timer.tac) : busRead (timerEdge t s) b = busRead s b := by
  refine busRead_of_regs (by simp) (by simp) (by simp) (fun _ => by simp)
    (fun e => absurd e hf) ?_ (by simp)
  simp only [timerRead, timerEdge_tDiv, timerEdge_tma, timerEdge_tac, if_neg h5, hm]
  rcases hd with hd | hd <;> rcases hc with hc | hc <;> first | rw [if_neg hd, if_neg hd] | rw [hd]
  · rw [if_neg hc, if_neg hc]
  · rw [hc]
  · rw [if_neg hc, if_neg hc]
  · rw [hc]

/-- A store changes what a read returns only where `storeReaches` says so (R104, R105, R123). -/
theorem busWrite_read_other (a : Word) (v : Byte) (s : State) {b : Word} (h : ¬storeReaches s a b) :
    busRead (busWrite a v s) b = busRead s b := by
  simp only [storeReaches, not_or] at h
  obtain ⟨hba, hup, hdown, htim, hlcdc, hlyc, hext⟩ := h
  have hne : a.toNat ≠ b.toNat := fun e => hba (word_eq_iff.mpr e.symm)
  have hb := memKey_cases b
  rcases writeCase a with h1 | rfl | h1 | ⟨h1, h2⟩ | ⟨h1, h2⟩ | ⟨h1, h2⟩ | h1 | ⟨k, rfl, hk⟩
  · rw [busWrite_ext s v h1]
    exact busRead_congr rfl (s.ext.read_write_other v hba hext) (fun _ => rfl) (fun _ => rfl) rfl rfl rfl
  · rw [busWrite_joypad]
    refine busRead_congr rfl rfl (fun _ => rfl) (fun _ => rfl) rfl rfl ?_
    exact (if_neg hba).trans (if_neg hba).symm
  · rw [busWrite_video s v h1]
    exact busRead_memWrite_other s v (by omega)
  · rw [busWrite_wram s v h1 h2]
    exact busRead_memWrite_other s v (by omega)
  · rw [busWrite_echo s v h1 h2]
    exact busRead_memWrite_other s v (by omega)
  · rw [busWrite_hram s v h1 h2]
    exact busRead_memWrite_other s v (by omega)
  · rw [busWrite_nowhere s v h1]
  · have hab : b ≠ a := fun e => hne (by rw [e])
    simp only [List.mem_cons, List.not_mem_nil, or_false] at hk
    rcases hk with rfl | rfl | rfl | rfl | rfl | rfl | rfl | rfl | rfl | rfl | rfl | rfl | rfl | rfl | rfl | rfl |
      rfl
    · rw [busWrite_ie]
      exact busRead_of_regs rfl rfl rfl (fun e => absurd e hab) (fun _ => rfl) rfl rfl
    · rw [busWrite_iflag]
      exact busRead_of_regs rfl rfl rfl (fun _ => rfl) (fun e => absurd e hab) rfl rfl
    · rw [busWrite_div]
      exact timerEdge_read _ s (fun e => htim ⟨.inl rfl, .inl e⟩) (fun e => htim ⟨.inl rfl, .inr e⟩) (.inl hab) rfl
        (.inr rfl)
    · rw [busWrite_tima]
      exact busRead_of_regs rfl rfl rfl (fun _ => rfl) (fun _ => rfl)
        (by simp only [timerRead, if_neg hab]) rfl
    · rw [busWrite_tma]
      exact busRead_of_regs rfl rfl rfl (fun _ => rfl) (fun _ => rfl)
        (by simp only [timerRead, if_neg hab]) rfl
    · rw [busWrite_tac]
      exact timerEdge_read _ s (fun e => htim ⟨.inr rfl, .inl e⟩) (fun e => htim ⟨.inr rfl, .inr e⟩) (.inr rfl) rfl
        (.inl hab)
    · rw [busWrite_lcdc]
      have act := writeLcdc_acted v s
      refine busRead_of_regs act.mem act.ext act.joypad (fun _ => act.ie)
        (fun e => absurd ⟨rfl, .inr (.inr e)⟩ hlcdc) (by simp only [timerRead, act.timer]) ?_
      have h41 : b ≠ 0xFF41 := fun e => hlcdc ⟨rfl, .inl e⟩
      have h44 : b ≠ 0xFF44 := fun e => hlcdc ⟨rfl, .inr (.inl e)⟩
      rw [act.lcd]
      split
      · exact displayReg_lcdc _ _ hab
      · exact (displayReg_compared _ h41).trans
          ((displayReg_ly _ _ h44).trans ((displayReg_stat _ _ h41).trans (displayReg_lcdc _ _ hab)))
    · rw [busWrite_stat]
      exact busRead_of_regs rfl rfl rfl (fun _ => rfl) (fun _ => rfl) rfl (displayReg_stat _ _ hab)
    · rw [busWrite_scy]
      exact busRead_of_regs rfl rfl rfl (fun _ => rfl) (fun _ => rfl) rfl
        (by simp only [displayReg, if_neg hab])
    · rw [busWrite_scx]
      exact busRead_of_regs rfl rfl rfl (fun _ => rfl) (fun _ => rfl) rfl
        (by simp only [displayReg, if_neg hab])
    · rw [busWrite_lyc]
      have act := writeLyc_acted v s
      refine busRead_of_regs act.mem act.ext act.joypad (fun _ => act.ie)
        (fun e => absurd ⟨rfl, .inr e⟩ hlyc) (by simp only [timerRead, act.timer]) ?_
      rw [act.lcd, displayReg_compared _ (fun e => hlyc ⟨rfl, .inl e⟩)]
      simp only [displayReg, if_neg hab]
    · rw [busWrite_dma]
      exact busRead_of_regs rfl rfl rfl (fun _ => rfl) (fun _ => rfl) rfl
        (by simp only [displayReg, writeDma, if_neg hab])
    · rw [busWrite_bgp]
      exact busRead_of_regs rfl rfl rfl (fun _ => rfl) (fun _ => rfl) rfl
        (by simp only [displayReg, if_neg hab])
    · rw [busWrite_obp0]
      exact busRead_of_regs rfl rfl rfl (fun _ => rfl) (fun _ => rfl) rfl
        (by simp only [displayReg, if_neg hab])
    · rw [busWrite_obp1]
      exact busRead_of_regs rfl rfl rfl (fun _ => rfl) (fun _ => rfl) rfl
        (by simp only [displayReg, if_neg hab])
    · rw [busWrite_wy]
      exact busRead_of_regs rfl rfl rfl (fun _ => rfl) (fun _ => rfl) rfl
        (by simp only [displayReg, if_neg hab])
    · rw [busWrite_wx]
      exact busRead_of_regs rfl rfl rfl (fun _ => rfl) (fun _ => rfl) rfl
        (by simp only [displayReg, if_neg hab])

/-! ## What a store leaves to read -/

/-- What Ext keeps it keeps after any write to it: a write can only uncover a cartridge (R112). -/
theorem Ext.keeps_write {e : Ext} (a : Word) (v : Byte) {b : Word} (h : e.keeps b) : (e.write a v).keeps b := by
  obtain ⟨c, rfl, h⟩ := h
  refine ⟨c.write a v, rfl, ?_⟩
  obtain ⟨r, m, u, _⟩ := c.write_kept a v
  rw [r, m]
  exact h.imp_left fun h => ⟨h.1, h.2.1, h.2.2.imp_left u⟩

/-- The devices of one kind stay of that kind. -/
theorem busWrite_ext_eq (a : Word) (v : Byte) (s : State) :
    (busWrite a v s).ext = s.ext ∨ ∃ b w, (busWrite a v s).ext = s.ext.write b w := by
  cases busWrite_effect a v s with
  | ext b w e => exact .inr ⟨b, w, by rw [e]⟩
  | div e => rw [e]; exact .inl (timerEdge_ext _ _)
  | tac v e => rw [e]; exact .inl (timerEdge_ext _ _)
  | lcdc v e => rw [e]; exact .inl (writeLcdc_acted v s).ext
  | lyc v e => rw [e]; exact .inl (writeLyc_acted v s).ext
  | _ => exact .inl (by simp_all [writeStat, writeDma])

theorem Ext.keeps.window {e : Ext} {a : Word} (h : e.keeps a) :
    a.toNat < 0x8000 ∨ (0xA000 ≤ a.toNat ∧ a.toNat ≤ 0xBFFF) := by
  obtain ⟨c, _, h | h⟩ := h <;> omega

theorem readsBack_of_busWrite (a : Word) (v : Byte) (s : State) {b : Word} (h : readsBack s b) :
    readsBack (busWrite a v s) b := by
  refine h.imp_left fun h => ?_
  rcases busWrite_ext_eq a v s with e | ⟨b, w, e⟩ <;> rw [e]
  · exact h
  · exact Ext.keeps_write b w h

theorem busRead_memWrite_same (s : State) (k : Nat) (v : Byte) {a : Word}
    (h : busRead { s with mem := s.mem.write k v } a = (s.mem.write k v).read k) :
    busRead { s with mem := s.mem.write k v } a = v := h.trans (Memory.read_write_same _ _ _)

/-- A read after a write to the same place gives the value written (R105, R123). -/
theorem busRead_busWrite_same (a : Word) (v : Byte) (s : State) (h : readsBack s a) :
    busRead (busWrite a v s) a = v := by
  have hr := h
  simp only [readsBack, word_eq_iff, BitVec.reduceToNat] at hr
  have hext (hk : s.ext.keeps a) : busRead (busWrite a v s) a = v := by
    have hw := hk.window
    rw [busWrite_ext s v (by omega), busRead_ext _ hw]
    exact congrArg (fun o => Option.getD o 0xFF) (s.ext.read_write_same v hk)
  rcases hr with hr | hr
  · exact hext hr
  rcases writeCase a with h1 | rfl | h1 | ⟨h1, h2⟩ | ⟨h1, h2⟩ | ⟨h1, h2⟩ | h1 | ⟨k, rfl, hk⟩
  · exfalso; omega
  · exfalso; simp at hr
  · rw [busWrite_video s v h1]
    exact busRead_memWrite_same s _ v (busRead_video _ h1)
  · rw [busWrite_wram s v h1 h2]
    exact busRead_memWrite_same s _ v (busRead_wram _ h1 h2)
  · rw [busWrite_echo s v h1 h2]
    exact busRead_memWrite_same s _ v (busRead_echo _ h1 h2)
  · rw [busWrite_hram s v h1 h2]
    exact busRead_memWrite_same s _ v (busRead_hram _ h1 h2)
  · exfalso; omega
  · simp only [List.mem_cons, List.not_mem_nil, or_false] at hk
    rcases hk with rfl | rfl | rfl | rfl | rfl | rfl | rfl | rfl | rfl | rfl | rfl | rfl | rfl | rfl | rfl | rfl |
      rfl
    · rw [busWrite_ie]; rfl
    · rw [busWrite_iflag]; rfl
    · simp at hr
    · rw [busWrite_tima]; exact busRead_timer _ (by simp) (by simp) rfl
    · rw [busWrite_tma]; exact busRead_timer _ (by simp) (by simp) rfl
    · rw [busWrite_tac]
      have := busRead_timer (writeTac v s) (a := 0xFF07) (by simp) (by simp) rfl
      rw [this]
      exact timerEdge_tac _ _
    · rw [busWrite_lcdc]
      have := busRead_displayReg (writeLcdc v s) (a := 0xFF40) (by simp) (by simp) rfl
      rw [this, (writeLcdc_acted v s).lcd]
      split <;> rfl
    · simp at hr
    · rw [busWrite_scy]; exact busRead_displayReg _ (by simp) (by simp) rfl
    · rw [busWrite_scx]; exact busRead_displayReg _ (by simp) (by simp) rfl
    · rw [busWrite_lyc]
      have := busRead_displayReg (writeLyc v s) (a := 0xFF45) (by simp) (by simp) rfl
      rw [this, (writeLyc_acted v s).lcd]
      rfl
    · rw [busWrite_dma]; exact busRead_displayReg _ (by simp) (by simp) rfl
    · rw [busWrite_bgp]; exact busRead_displayReg _ (by simp) (by simp) rfl
    · rw [busWrite_obp0]; exact busRead_displayReg _ (by simp) (by simp) rfl
    · rw [busWrite_obp1]; exact busRead_displayReg _ (by simp) (by simp) rfl
    · rw [busWrite_wy]; exact busRead_displayReg _ (by simp) (by simp) rfl
    · rw [busWrite_wx]; exact busRead_displayReg _ (by simp) (by simp) rfl

theorem succ_toNat {a : Word} (h : a ≠ 0xFFFF) : (a + 1).toNat = a.toNat + 1 := by
  have hlt := a.isLt
  have : a.toNat ≠ 0xFFFF := fun e => h (word_eq_iff.mpr e)
  rw [BitVec.toNat_add]
  simp only [BitVec.reduceToNat]
  omega

/-- The second byte of a word store never disturbs a first byte that reads back. -/
theorem storeReaches_succ_self {s : State} {a : Word} (h : a ≠ 0xFFFF) (r : readsBack s a) :
    ¬storeReaches s (a + 1) a := by
  have hs := succ_toNat h
  have hx : ¬s.ext.reaches (a + 1) a := by
    rintro (⟨c, _, _, e, hl⟩ | ⟨st, e, _, hw⟩)
    · rw [word_eq_iff, hs] at e
      simp only [BitVec.reduceToNat] at e
      omega
    · rw [inExtWindow_true] at hw
      rcases r with ⟨c, e', _⟩ | r
      · rw [e] at e'
        cases e'
      · simp only [word_eq_iff, BitVec.reduceToNat] at r
        omega
  unfold storeReaches
  simp only [hx, word_eq_iff, hs, BitVec.reduceToNat, or_false]
  omega

/-- A write never widens what a later write to Ext can reach. -/
theorem Ext.reaches_of_write {e : Ext} {a : Word} {v : Byte} {b c : Word} (h : (e.write a v).reaches b c) :
    e.reaches b c := by
  rcases h with ⟨d, e', m, k⟩ | ⟨st, e', k⟩
  · cases e with
    | cartridge d' =>
      cases e'
      refine .inl ⟨d', rfl, ?_, k⟩
      by_contra x
      exact absurd m (by simp [(d'.write_kept a v).2.2.1 (by simpa using x)])
    | given st =>
      unfold Ext.write at e'
      dsimp only at e'
      split at e' <;> cases e'
  · cases e with
    | cartridge d => cases e'
    | given st => exact .inr ⟨st, rfl, k⟩

theorem storeReaches_of_busWrite (a : Word) (v : Byte) (s : State) {b c : Word}
    (h : ¬storeReaches s b c) : ¬storeReaches (busWrite a v s) b c := by
  refine fun k => h ?_
  refine k.imp_right (Or.imp_right (Or.imp_right (Or.imp_right (Or.imp_right (Or.imp_right fun k => ?_)))))
  rcases busWrite_ext_eq a v s with e | ⟨_, _, e⟩ <;> rw [e] at k
  · exact k
  · exact Ext.reaches_of_write k

/-- A byte store does what `StoredByte` says. -/
theorem storedByte (a : Word) (v : Byte) (s : State) : StoredByte s (busWrite a v s) a v :=
  ⟨SameBus.refl _, busRead_busWrite_same a v s, fun _ h => busWrite_read_other a v s h⟩

theorem StoredByte.of_sameBus {s t u : State} {a : Word} {v : Byte} (h : StoredByte s t a v) (k : SameBus t u) :
    StoredByte s u a v :=
  ⟨h.bus.trans k, fun r => (k.read a).trans (h.back r), fun b r => (k.read b).trans (h.frame b r)⟩

/-- A word store inside the address space does what `StoredWord` says. -/
theorem storedWord (a w : Word) (s : State) (h : a ≠ 0xFFFF) : StoredWord s (memWrite16 a w s) a w where
  bus := SameBus.refl _
  low r := by
    unfold memWrite16
    rw [busWrite_read_other _ _ _ (storeReaches_succ_self h (readsBack_of_busWrite a _ s r))]
    exact busRead_busWrite_same a _ s r
  high r := busRead_busWrite_same _ _ _ (readsBack_of_busWrite a _ s r)
  frame b r1 r2 := by
    unfold memWrite16
    rw [busWrite_read_other _ _ _ (storeReaches_of_busWrite a _ s r2), busWrite_read_other _ _ _ r1]

theorem StoredWord.of_sameBus {s t u : State} {a w : Word} (h : StoredWord s t a w) (k : SameBus t u) :
    StoredWord s u a w :=
  ⟨h.bus.trans k, fun r => (k.read a).trans (h.low r), fun r => (k.read _).trans (h.high r),
    fun b r1 r2 => (k.read b).trans (h.frame b r1 r2)⟩

/-! ## The canonical form -/

theorem mem_write_inv {s t : State} (h : MemoryInv s) (hx : t.ext = s.ext)
    (hm : t.mem = s.mem ∨ ∃ k v, t.mem = s.mem.write k v) : MemoryInv t := by
  refine ⟨?_, by rw [hx]; exact h.2⟩
  rcases hm with hm | ⟨k, v, hm⟩
  · rw [hm]; exact h.1
  · rw [hm]; exact Memory.write_wf k v h.1

/-- A bus write stores at most one byte in memory. -/
theorem busWrite_mem (a : Word) (v : Byte) (s : State) :
    (busWrite a v s).mem = s.mem ∨ ∃ k v', (busWrite a v s).mem = s.mem.write k v' := by
  cases busWrite_effect a v s with
  | memory k v e => exact .inr ⟨k, v, by rw [e]⟩
  | div e => rw [e]; exact .inl (timerEdge_mem _ _)
  | tac v e => rw [e]; exact .inl (timerEdge_mem _ _)
  | lcdc v e => rw [e]; exact .inl (writeLcdc_acted v s).mem
  | lyc v e => rw [e]; exact .inl (writeLyc_acted v s).mem
  | _ => exact .inl (by simp_all [writeStat, writeDma])

/-- Every bus write keeps the canonical form of memory. -/
theorem busWrite_memoryInv (a : Word) (v : Byte) (s : State) (h : MemoryInv s) : MemoryInv (busWrite a v s) := by
  constructor
  · rcases busWrite_mem a v s with e | ⟨k, w, e⟩ <;> rw [e]
    · exact h.1
    · exact Memory.write_wf k w h.1
  · rcases busWrite_ext_eq a v s with e | ⟨b, w, e⟩ <;> rw [e]
    · exact h.2
    · exact Ext.write_wf b w h.2

theorem reset_memoryInv : MemoryInv State.reset := ⟨by decide, by decide⟩

end Sys2Proof.Machine
end

