-- ==== Sys2Proof/Laws/Exec.lean ====
section
/-! SUPPORT. The 512 rows grouped into the families of the spec, and one lemma per family that says which
shared operation its meaning is. A proof about all instructions is a case split over the families. -/

namespace Sys2Proof.Machine

/-- The unit operation of `RLCA`, `RRCA`, `RLA`, `RRA`. -/
def rotAOp (left carry : Bool) : RotOp :=
  match left, carry with
  | true, false => .rlc
  | false, false => .rrc
  | true, true => .rl
  | false, true => .rr

/-- `0xFF00 + a` (R270) is the word with high byte 0xFF. -/
theorem pageFF_eq (a : Byte) : pageFF a = make16 0xFF a := by
  have h1 : (0xFF : Byte).toNat = 255 := rfl
  have h2 : (0xFF00 : Word).toNat = 65280 := rfl
  unfold pageFF make16 zext16
  apply BitVec.eq_of_toNat_eq
  rw [BitVec.toNat_add, BitVec.toNat_append, BitVec.toNat_setWidth, ← Nat.shiftLeft_add_eq_or_of_lt a.isLt]
  simp only [Nat.shiftLeft_eq]
  omega

/-- Every instruction is a member of one family of the spec. -/
inductive Family : Instr → Prop where
  | move (r q : Reg8) : Family (.ldRegReg r q)
  | loadImm (r : Reg8) (n : Byte) : Family (.ldRegN8 r n)
  | loadHl (r : Reg8) : Family (.ldRegHl r)
  | storeHl (r : Reg8) : Family (.ldHlReg r)
  | storeHlImm (n : Byte) : Family (.ldAtHlN8 n)
  | loadA (p : Pointer) : Family (.loadA p)
  | storeA (p : Pointer) : Family (.storeA p)
  | loadAInc : Family .ldAAtHlInc
  | loadADec : Family .ldAAtHlDec
  | storeAInc : Family .ldAtHlIncA
  | storeADec : Family .ldAtHlDecA
  | pairImm (p : Pair) (n : Word) : Family (.ldPairN16 p n)
  | storeSp (n : Word) : Family (.ldAtA16Sp n)
  | spHl : Family .ldSpHl
  | hlSp (e : Byte) : Family (.ldHlSpE8 e)
  | push (q : StackPair) : Family (.push q)
  | pop (q : StackPair) : Family (.pop q)
  | aluReg (op : AluOp) (r : Reg8) : Family (.aluReg op r)
  | aluHl (op : AluOp) : Family (.aluHl op)
  | aluImm (op : AluOp) (n : Byte) : Family (.aluN8 op n)
  | incReg (r : Reg8) : Family (.incReg r)
  | decReg (r : Reg8) : Family (.decReg r)
  | incHl : Family .incAtHl
  | decHl : Family .decAtHl
  | daa : Family .daa
  | cpl : Family .cpl
  | scf : Family .scf
  | ccf : Family .ccf
  | addHl (p : Pair) : Family (.addHlPair p)
  | incPair (p : Pair) : Family (.incPair p)
  | decPair (p : Pair) : Family (.decPair p)
  | addSp (e : Byte) : Family (.addSpE8 e)
  | rotA (left carry : Bool) : Family (.rotA left carry)
  | rotReg (op : RotOp) (r : Reg8) : Family (.rotReg op r)
  | rotHl (op : RotOp) : Family (.rotHl op)
  | bitReg (b : Fin 8) (r : Reg8) : Family (.bitReg b r)
  | bitHl (b : Fin 8) : Family (.bitHl b)
  | resReg (b : Fin 8) (r : Reg8) : Family (.resReg b r)
  | resHl (b : Fin 8) : Family (.resHl b)
  | setReg (b : Fin 8) (r : Reg8) : Family (.setReg b r)
  | setHl (b : Fin 8) : Family (.setHl b)
  | jp (n : Word) : Family (.jpA16 n)
  | jpCond (cc : Cond) (n : Word) : Family (.jpCond cc n)
  | jpHl : Family .jpHl
  | jr (e : Byte) : Family (.jrE8 e)
  | jrCond (cc : Cond) (e : Byte) : Family (.jrCond cc e)
  | call (n : Word) : Family (.callA16 n)
  | callCond (cc : Cond) (n : Word) : Family (.callCond cc n)
  | ret : Family .ret
  | retCond (cc : Cond) : Family (.retCond cc)
  | reti : Family .reti
  | rst (y : Fin 8) : Family (.rst y)
  | nop : Family .nop
  | halt : Family .halt
  | stop : Family .stop
  | di : Family .di
  | ei : Family .ei
  | pre (op2 : Byte) : Family (.prefixCb op2)
  | unused (u : UnusedOp) : Family (.unused u)

theorem family_all (i : Instr) : Family i :=
  match i with
  | .nop => .nop
  | .ldBcN16 n => .pairImm .bc n
  | .ldAtBcA => .storeA .bc
  | .incBc => .incPair .bc
  | .incB => .incReg .b
  | .decB => .decReg .b
  | .ldBN8 n => .loadImm .b n
  | .rlca => .rotA true false
  | .ldAtA16Sp n => .storeSp n
  | .addHlBc => .addHl .bc
  | .ldAAtBc => .loadA .bc
  | .decBc => .decPair .bc
  | .incC => .incReg .c
  | .decC => .decReg .c
  | .ldCN8 n => .loadImm .c n
  | .rrca => .rotA false false
  | .stop => .stop
  | .ldDeN16 n => .pairImm .de n
  | .ldAtDeA => .storeA .de
  | .incDe => .incPair .de
  | .incD => .incReg .d
  | .decD => .decReg .d
  | .ldDN8 n => .loadImm .d n
  | .rla => .rotA true true
  | .jrE8 e => .jr e
  | .addHlDe => .addHl .de
  | .ldAAtDe => .loadA .de
  | .decDe => .decPair .de
  | .incE => .incReg .e
  | .decE => .decReg .e
  | .ldEN8 n => .loadImm .e n
  | .rra => .rotA false true
  | .jrNzE8 e => .jrCond .nz e
  | .ldHlN16 n => .pairImm .hl n
  | .ldAtHlIncA => .storeAInc
  | .incHl => .incPair .hl
  | .incH => .incReg .h
  | .decH => .decReg .h
  | .ldHN8 n => .loadImm .h n
  | .daa => .daa
  | .jrZE8 e => .jrCond .z e
  | .addHlHl => .addHl .hl
  | .ldAAtHlInc => .loadAInc
  | .decHl => .decPair .hl
  | .incL => .incReg .l
  | .decL => .decReg .l
  | .ldLN8 n => .loadImm .l n
  | .cpl => .cpl
  | .jrNcE8 e => .jrCond .nc e
  | .ldSpN16 n => .pairImm .sp n
  | .ldAtHlDecA => .storeADec
  | .incSp => .incPair .sp
  | .incAtHl => .incHl
  | .decAtHl => .decHl
  | .ldAtHlN8 n => .storeHlImm n
  | .scf => .scf
  | .jrCE8 e => .jrCond .c e
  | .addHlSp => .addHl .sp
  | .ldAAtHlDec => .loadADec
  | .decSp => .decPair .sp
  | .incA => .incReg .a
  | .decA => .decReg .a
  | .ldAN8 n => .loadImm .a n
  | .ccf => .ccf
  | .ldBB => .move .b .b
  | .ldBC => .move .b .c
  | .ldBD => .move .b .d
  | .ldBE => .move .b .e
  | .ldBH => .move .b .h
  | .ldBL => .move .b .l
  | .ldBAtHl => .loadHl .b
  | .ldBA => .move .b .a
  | .ldCB => .move .c .b
  | .ldCC => .move .c .c
  | .ldCD => .move .c .d
  | .ldCE => .move .c .e
  | .ldCH => .move .c .h
  | .ldCL => .move .c .l
  | .ldCAtHl => .loadHl .c
  | .ldCA => .move .c .a
  | .ldDB => .move .d .b
  | .ldDC => .move .d .c
  | .ldDD => .move .d .d
  | .ldDE => .move .d .e
  | .ldDH => .move .d .h
  | .ldDL => .move .d .l
  | .ldDAtHl => .loadHl .d
  | .ldDA => .move .d .a
  | .ldEB => .move .e .b
  | .ldEC => .move .e .c
  | .ldED => .move .e .d
  | .ldEE => .move .e .e
  | .ldEH => .move .e .h
  | .ldEL => .move .e .l
  | .ldEAtHl => .loadHl .e
  | .ldEA => .move .e .a
  | .ldHB => .move .h .b
  | .ldHC => .move .h .c
  | .ldHD => .move .h .d
  | .ldHE => .move .h .e
  | .ldHH => .move .h .h
  | .ldHL => .move .h .l
  | .ldHAtHl => .loadHl .h
  | .ldHA => .move .h .a
  | .ldLB => .move .l .b
  | .ldLC => .move .l .c
  | .ldLD => .move .l .d
  | .ldLE => .move .l .e
  | .ldLH => .move .l .h
  | .ldLL => .move .l .l
  | .ldLAtHl => .loadHl .l
  | .ldLA => .move .l .a
  | .ldAtHlB => .storeHl .b
  | .ldAtHlC => .storeHl .c
  | .ldAtHlD => .storeHl .d
  | .ldAtHlE => .storeHl .e
  | .ldAtHlH => .storeHl .h
  | .ldAtHlL => .storeHl .l
  | .halt => .halt
  | .ldAtHlA => .storeHl .a
  | .ldAB => .move .a .b
  | .ldAC => .move .a .c
  | .ldAD => .move .a .d
  | .ldAE => .move .a .e
  | .ldAH => .move .a .h
  | .ldAL => .move .a .l
  | .ldAAtHl => .loadHl .a
  | .ldAA => .move .a .a
  | .addAB => .aluReg .add .b
  | .addAC => .aluReg .add .c
  | .addAD => .aluReg .add .d
  | .addAE => .aluReg .add .e
  | .addAH => .aluReg .add .h
  | .addAL => .aluReg .add .l
  | .addAAtHl => .aluHl .add
  | .addAA => .aluReg .add .a
  | .adcAB => .aluReg .adc .b
  | .adcAC => .aluReg .adc .c
  | .adcAD => .aluReg .adc .d
  | .adcAE => .aluReg .adc .e
  | .adcAH => .aluReg .adc .h
  | .adcAL => .aluReg .adc .l
  | .adcAAtHl => .aluHl .adc
  | .adcAA => .aluReg .adc .a
  | .subB => .aluReg .sub .b
  | .subC => .aluReg .sub .c
  | .subD => .aluReg .sub .d
  | .subE => .aluReg .sub .e
  | .subH => .aluReg .sub .h
  | .subL => .aluReg .sub .l
  | .subAtHl => .aluHl .sub
  | .subA => .aluReg .sub .a
  | .sbcAB => .aluReg .sbc .b
  | .sbcAC => .aluReg .sbc .c
  | .sbcAD => .aluReg .sbc .d
  | .sbcAE => .aluReg .sbc .e
  | .sbcAH => .aluReg .sbc .h
  | .sbcAL => .aluReg .sbc .l
  | .sbcAAtHl => .aluHl .sbc
  | .sbcAA => .aluReg .sbc .a
  | .andB => .aluReg .and .b
  | .andC => .aluReg .and .c
  | .andD => .aluReg .and .d
  | .andE => .aluReg .and .e
  | .andH => .aluReg .and .h
  | .andL => .aluReg .and .l
  | .andAtHl => .aluHl .and
  | .andA => .aluReg .and .a
  | .xorB => .aluReg .xor .b
  | .xorC => .aluReg .xor .c
  | .xorD => .aluReg .xor .d
  | .xorE => .aluReg .xor .e
  | .xorH => .aluReg .xor .h
  | .xorL => .aluReg .xor .l
  | .xorAtHl => .aluHl .xor
  | .xorA => .aluReg .xor .a
  | .orB => .aluReg .or .b
  | .orC => .aluReg .or .c
  | .orD => .aluReg .or .d
  | .orE => .aluReg .or .e
  | .orH => .aluReg .or .h
  | .orL => .aluReg .or .l
  | .orAtHl => .aluHl .or
  | .orA => .aluReg .or .a
  | .cpB => .aluReg .cp .b
  | .cpC => .aluReg .cp .c
  | .cpD => .aluReg .cp .d
  | .cpE => .aluReg .cp .e
  | .cpH => .aluReg .cp .h
  | .cpL => .aluReg .cp .l
  | .cpAtHl => .aluHl .cp
  | .cpA => .aluReg .cp .a
  | .retNz => .retCond .nz
  | .popBc => .pop .bc
  | .jpNzA16 n => .jpCond .nz n
  | .jpA16 n => .jp n
  | .callNzA16 n => .callCond .nz n
  | .pushBc => .push .bc
  | .addAN8 n => .aluImm .add n
  | .rst00 => .rst 0
  | .retZ => .retCond .z
  | .ret => .ret
  | .jpZA16 n => .jpCond .z n
  | .prefixCb op2 => .pre op2
  | .callZA16 n => .callCond .z n
  | .callA16 n => .call n
  | .adcAN8 n => .aluImm .adc n
  | .rst08 => .rst 1
  | .retNc => .retCond .nc
  | .popDe => .pop .de
  | .jpNcA16 n => .jpCond .nc n
  | .unusedD3 => .unused .xD3
  | .callNcA16 n => .callCond .nc n
  | .pushDe => .push .de
  | .subN8 n => .aluImm .sub n
  | .rst10 => .rst 2
  | .retC => .retCond .c
  | .reti => .reti
  | .jpCA16 n => .jpCond .c n
  | .unusedDB => .unused .xDB
  | .callCA16 n => .callCond .c n
  | .unusedDD => .unused .xDD
  | .sbcAN8 n => .aluImm .sbc n
  | .rst18 => .rst 3
  | .ldhAtA8A a => .storeA (.page a)
  | .popHl => .pop .hl
  | .ldhAtCA => .storeA .pageC
  | .unusedE3 => .unused .xE3
  | .unusedE4 => .unused .xE4
  | .pushHl => .push .hl
  | .andN8 n => .aluImm .and n
  | .rst20 => .rst 4
  | .addSpE8 e => .addSp e
  | .jpHl => .jpHl
  | .ldAtA16A n => .storeA (.abs n)
  | .unusedEB => .unused .xEB
  | .unusedEC => .unused .xEC
  | .unusedED => .unused .xED
  | .xorN8 n => .aluImm .xor n
  | .rst28 => .rst 5
  | .ldhAAtA8 a => .loadA (.page a)
  | .popAf => .pop .af
  | .ldhAAtC => .loadA .pageC
  | .di => .di
  | .unusedF4 => .unused .xF4
  | .pushAf => .push .af
  | .orN8 n => .aluImm .or n
  | .rst30 => .rst 6
  | .ldHlSpE8 e => .hlSp e
  | .ldSpHl => .spHl
  | .ldAAtA16 n => .loadA (.abs n)
  | .ei => .ei
  | .unusedFC => .unused .xFC
  | .unusedFD => .unused .xFD
  | .cpN8 n => .aluImm .cp n
  | .rst38 => .rst 7
  | .rlcB => .rotReg .rlc .b
  | .rlcC => .rotReg .rlc .c
  | .rlcD => .rotReg .rlc .d
  | .rlcE => .rotReg .rlc .e
  | .rlcH => .rotReg .rlc .h
  | .rlcL => .rotReg .rlc .l
  | .rlcAtHl => .rotHl .rlc
  | .rlcA => .rotReg .rlc .a
  | .rrcB => .rotReg .rrc .b
  | .rrcC => .rotReg .rrc .c
  | .rrcD => .rotReg .rrc .d
  | .rrcE => .rotReg .rrc .e
  | .rrcH => .rotReg .rrc .h
  | .rrcL => .rotReg .rrc .l
  | .rrcAtHl => .rotHl .rrc
  | .rrcA => .rotReg .rrc .a
  | .rlB => .rotReg .rl .b
  | .rlC => .rotReg .rl .c
  | .rlD => .rotReg .rl .d
  | .rlE => .rotReg .rl .e
  | .rlH => .rotReg .rl .h
  | .rlL => .rotReg .rl .l
  | .rlAtHl => .rotHl .rl
  | .rlA => .rotReg .rl .a
  | .rrB => .rotReg .rr .b
  | .rrC => .rotReg .rr .c
  | .rrD => .rotReg .rr .d
  | .rrE => .rotReg .rr .e
  | .rrH => .rotReg .rr .h
  | .rrL => .rotReg .rr .l
  | .rrAtHl => .rotHl .rr
  | .rrA => .rotReg .rr .a
  | .slaB => .rotReg .sla .b
  | .slaC => .rotReg .sla .c
  | .slaD => .rotReg .sla .d
  | .slaE => .rotReg .sla .e
  | .slaH => .rotReg .sla .h
  | .slaL => .rotReg .sla .l
  | .slaAtHl => .rotHl .sla
  | .slaA => .rotReg .sla .a
  | .sraB => .rotReg .sra .b
  | .sraC => .rotReg .sra .c
  | .sraD => .rotReg .sra .d
  | .sraE => .rotReg .sra .e
  | .sraH => .rotReg .sra .h
  | .sraL => .rotReg .sra .l
  | .sraAtHl => .rotHl .sra
  | .sraA => .rotReg .sra .a
  | .swapB => .rotReg .swap .b
  | .swapC => .rotReg .swap .c
  | .swapD => .rotReg .swap .d
  | .swapE => .rotReg .swap .e
  | .swapH => .rotReg .swap .h
  | .swapL => .rotReg .swap .l
  | .swapAtHl => .rotHl .swap
  | .swapA => .rotReg .swap .a
  | .srlB => .rotReg .srl .b
  | .srlC => .rotReg .srl .c
  | .srlD => .rotReg .srl .d
  | .srlE => .rotReg .srl .e
  | .srlH => .rotReg .srl .h
  | .srlL => .rotReg .srl .l
  | .srlAtHl => .rotHl .srl
  | .srlA => .rotReg .srl .a
  | .bit0B => .bitReg 0 .b
  | .bit0C => .bitReg 0 .c
  | .bit0D => .bitReg 0 .d
  | .bit0E => .bitReg 0 .e
  | .bit0H => .bitReg 0 .h
  | .bit0L => .bitReg 0 .l
  | .bit0AtHl => .bitHl 0
  | .bit0A => .bitReg 0 .a
  | .bit1B => .bitReg 1 .b
  | .bit1C => .bitReg 1 .c
  | .bit1D => .bitReg 1 .d
  | .bit1E => .bitReg 1 .e
  | .bit1H => .bitReg 1 .h
  | .bit1L => .bitReg 1 .l
  | .bit1AtHl => .bitHl 1
  | .bit1A => .bitReg 1 .a
  | .bit2B => .bitReg 2 .b
  | .bit2C => .bitReg 2 .c
  | .bit2D => .bitReg 2 .d
  | .bit2E => .bitReg 2 .e
  | .bit2H => .bitReg 2 .h
  | .bit2L => .bitReg 2 .l
  | .bit2AtHl => .bitHl 2
  | .bit2A => .bitReg 2 .a
  | .bit3B => .bitReg 3 .b
  | .bit3C => .bitReg 3 .c
  | .bit3D => .bitReg 3 .d
  | .bit3E => .bitReg 3 .e
  | .bit3H => .bitReg 3 .h
  | .bit3L => .bitReg 3 .l
  | .bit3AtHl => .bitHl 3
  | .bit3A => .bitReg 3 .a
  | .bit4B => .bitReg 4 .b
  | .bit4C => .bitReg 4 .c
  | .bit4D => .bitReg 4 .d
  | .bit4E => .bitReg 4 .e
  | .bit4H => .bitReg 4 .h
  | .bit4L => .bitReg 4 .l
  | .bit4AtHl => .bitHl 4
  | .bit4A => .bitReg 4 .a
  | .bit5B => .bitReg 5 .b
  | .bit5C => .bitReg 5 .c
  | .bit5D => .bitReg 5 .d
  | .bit5E => .bitReg 5 .e
  | .bit5H => .bitReg 5 .h
  | .bit5L => .bitReg 5 .l
  | .bit5AtHl => .bitHl 5
  | .bit5A => .bitReg 5 .a
  | .bit6B => .bitReg 6 .b
  | .bit6C => .bitReg 6 .c
  | .bit6D => .bitReg 6 .d
  | .bit6E => .bitReg 6 .e
  | .bit6H => .bitReg 6 .h
  | .bit6L => .bitReg 6 .l
  | .bit6AtHl => .bitHl 6
  | .bit6A => .bitReg 6 .a
  | .bit7B => .bitReg 7 .b
  | .bit7C => .bitReg 7 .c
  | .bit7D => .bitReg 7 .d
  | .bit7E => .bitReg 7 .e
  | .bit7H => .bitReg 7 .h
  | .bit7L => .bitReg 7 .l
  | .bit7AtHl => .bitHl 7
  | .bit7A => .bitReg 7 .a
  | .res0B => .resReg 0 .b
  | .res0C => .resReg 0 .c
  | .res0D => .resReg 0 .d
  | .res0E => .resReg 0 .e
  | .res0H => .resReg 0 .h
  | .res0L => .resReg 0 .l
  | .res0AtHl => .resHl 0
  | .res0A => .resReg 0 .a
  | .res1B => .resReg 1 .b
  | .res1C => .resReg 1 .c
  | .res1D => .resReg 1 .d
  | .res1E => .resReg 1 .e
  | .res1H => .resReg 1 .h
  | .res1L => .resReg 1 .l
  | .res1AtHl => .resHl 1
  | .res1A => .resReg 1 .a
  | .res2B => .resReg 2 .b
  | .res2C => .resReg 2 .c
  | .res2D => .resReg 2 .d
  | .res2E => .resReg 2 .e
  | .res2H => .resReg 2 .h
  | .res2L => .resReg 2 .l
  | .res2AtHl => .resHl 2
  | .res2A => .resReg 2 .a
  | .res3B => .resReg 3 .b
  | .res3C => .resReg 3 .c
  | .res3D => .resReg 3 .d
  | .res3E => .resReg 3 .e
  | .res3H => .resReg 3 .h
  | .res3L => .resReg 3 .l
  | .res3AtHl => .resHl 3
  | .res3A => .resReg 3 .a
  | .res4B => .resReg 4 .b
  | .res4C => .resReg 4 .c
  | .res4D => .resReg 4 .d
  | .res4E => .resReg 4 .e
  | .res4H => .resReg 4 .h
  | .res4L => .resReg 4 .l
  | .res4AtHl => .resHl 4
  | .res4A => .resReg 4 .a
  | .res5B => .resReg 5 .b
  | .res5C => .resReg 5 .c
  | .res5D => .resReg 5 .d
  | .res5E => .resReg 5 .e
  | .res5H => .resReg 5 .h
  | .res5L => .resReg 5 .l
  | .res5AtHl => .resHl 5
  | .res5A => .resReg 5 .a
  | .res6B => .resReg 6 .b
  | .res6C => .resReg 6 .c
  | .res6D => .resReg 6 .d
  | .res6E => .resReg 6 .e
  | .res6H => .resReg 6 .h
  | .res6L => .resReg 6 .l
  | .res6AtHl => .resHl 6
  | .res6A => .resReg 6 .a
  | .res7B => .resReg 7 .b
  | .res7C => .resReg 7 .c
  | .res7D => .resReg 7 .d
  | .res7E => .resReg 7 .e
  | .res7H => .resReg 7 .h
  | .res7L => .resReg 7 .l
  | .res7AtHl => .resHl 7
  | .res7A => .resReg 7 .a
  | .set0B => .setReg 0 .b
  | .set0C => .setReg 0 .c
  | .set0D => .setReg 0 .d
  | .set0E => .setReg 0 .e
  | .set0H => .setReg 0 .h
  | .set0L => .setReg 0 .l
  | .set0AtHl => .setHl 0
  | .set0A => .setReg 0 .a
  | .set1B => .setReg 1 .b
  | .set1C => .setReg 1 .c
  | .set1D => .setReg 1 .d
  | .set1E => .setReg 1 .e
  | .set1H => .setReg 1 .h
  | .set1L => .setReg 1 .l
  | .set1AtHl => .setHl 1
  | .set1A => .setReg 1 .a
  | .set2B => .setReg 2 .b
  | .set2C => .setReg 2 .c
  | .set2D => .setReg 2 .d
  | .set2E => .setReg 2 .e
  | .set2H => .setReg 2 .h
  | .set2L => .setReg 2 .l
  | .set2AtHl => .setHl 2
  | .set2A => .setReg 2 .a
  | .set3B => .setReg 3 .b
  | .set3C => .setReg 3 .c
  | .set3D => .setReg 3 .d
  | .set3E => .setReg 3 .e
  | .set3H => .setReg 3 .h
  | .set3L => .setReg 3 .l
  | .set3AtHl => .setHl 3
  | .set3A => .setReg 3 .a
  | .set4B => .setReg 4 .b
  | .set4C => .setReg 4 .c
  | .set4D => .setReg 4 .d
  | .set4E => .setReg 4 .e
  | .set4H => .setReg 4 .h
  | .set4L => .setReg 4 .l
  | .set4AtHl => .setHl 4
  | .set4A => .setReg 4 .a
  | .set5B => .setReg 5 .b
  | .set5C => .setReg 5 .c
  | .set5D => .setReg 5 .d
  | .set5E => .setReg 5 .e
  | .set5H => .setReg 5 .h
  | .set5L => .setReg 5 .l
  | .set5AtHl => .setHl 5
  | .set5A => .setReg 5 .a
  | .set6B => .setReg 6 .b
  | .set6C => .setReg 6 .c
  | .set6D => .setReg 6 .d
  | .set6E => .setReg 6 .e
  | .set6H => .setReg 6 .h
  | .set6L => .setReg 6 .l
  | .set6AtHl => .setHl 6
  | .set6A => .setReg 6 .a
  | .set7B => .setReg 7 .b
  | .set7C => .setReg 7 .c
  | .set7D => .setReg 7 .d
  | .set7E => .setReg 7 .e
  | .set7H => .setReg 7 .h
  | .set7L => .setReg 7 .l
  | .set7AtHl => .setHl 7
  | .set7A => .setReg 7 .a

/-! ## The meaning of each family -/

section meanings
variable (s : State)

theorem exec_move (r q : Reg8) : exec (.ldRegReg r q) s = .next (moveReg r q s) := by
  cases r <;> cases q <;> rfl

theorem exec_loadImm (r : Reg8) (n : Byte) : exec (.ldRegN8 r n) s = .next (loadImm r n s) := by
  cases r <;> rfl

theorem exec_loadHl (r : Reg8) : exec (.ldRegHl r) s = .next (loadFromHl r s) := by
  cases r <;> rfl

theorem exec_storeHl (r : Reg8) : exec (.ldHlReg r) s = .next (storeAtHl r s) := by
  cases r <;> rfl

theorem exec_storeHlImm (n : Byte) : exec (.ldAtHlN8 n) s = .next (storeImmAtHl n s) := rfl

theorem exec_loadA (p : Pointer) :
    exec (.loadA p) s = .next (loadAFrom (p.addr s) p.len p.cycles s) := by
  cases p
  case pageC => exact congrArg (fun a => Host.Outcome.next (loadAFrom a 1 2 s)) (pageFF_eq _)
  case page a => exact congrArg (fun a => Host.Outcome.next (loadAFrom a 2 3 s)) (pageFF_eq _)
  all_goals rfl

theorem exec_storeA (p : Pointer) :
    exec (.storeA p) s = .next (storeATo (p.addr s) p.len p.cycles s) := by
  cases p
  case pageC => exact congrArg (fun a => Host.Outcome.next (storeATo a 1 2 s)) (pageFF_eq _)
  case page a => exact congrArg (fun a => Host.Outcome.next (storeATo a 2 3 s)) (pageFF_eq _)
  all_goals rfl

theorem exec_loadAInc : exec .ldAAtHlInc s = .next (loadAThen incHlPtr s) := rfl

theorem exec_loadADec : exec .ldAAtHlDec s = .next (loadAThen decHlPtr s) := rfl

theorem exec_storeAInc : exec .ldAtHlIncA s = .next (storeAThen incHlPtr s) := rfl

theorem exec_storeADec : exec .ldAtHlDecA s = .next (storeAThen decHlPtr s) := rfl

theorem exec_pairImm (p : Pair) (n : Word) :
    exec (.ldPairN16 p n) s = .next (loadPairImm p n s) := by
  cases p <;> rfl

theorem exec_storeSp (n : Word) : exec (.ldAtA16Sp n) s = .next (storeSp n s) := rfl

theorem exec_spHl : exec .ldSpHl s = .next (loadSpFromHl s) := rfl

theorem exec_hlSp (e : Byte) : exec (.ldHlSpE8 e) s = .next (loadHlFromSp e s) := rfl

theorem exec_push (q : StackPair) : exec (.push q) s = .next (pushPair q s) := by
  cases q <;> rfl

theorem exec_pop (q : StackPair) : exec (.pop q) s = .next (popPair q s) := by
  cases q <;> rfl

theorem exec_aluReg (op : AluOp) (r : Reg8) :
    exec (.aluReg op r) s = .next (Machine.aluReg op r s) := by
  cases op <;> cases r <;> rfl

theorem exec_aluHl (op : AluOp) : exec (.aluHl op) s = .next (aluAtHl op s) := by
  cases op <;> rfl

theorem exec_aluImm (op : AluOp) (n : Byte) : exec (.aluN8 op n) s = .next (aluImm op n s) := by
  cases op <;> rfl

theorem exec_incReg (r : Reg8) : exec (.incReg r) s = .next (Machine.incReg r s) := by
  cases r <;> rfl

theorem exec_decReg (r : Reg8) : exec (.decReg r) s = .next (Machine.decReg r s) := by
  cases r <;> rfl

theorem exec_incHl : exec .incAtHl s = .next (incAtHl s) := rfl

theorem exec_decHl : exec .decAtHl s = .next (decAtHl s) := rfl

theorem exec_daa : exec .daa s = .next (decimalAdjust s) := rfl

theorem exec_cpl : exec .cpl s = .next (complementA s) := rfl

theorem exec_scf : exec .scf s = .next (setCarry s) := rfl

theorem exec_ccf : exec .ccf s = .next (complementCarry s) := rfl

theorem exec_addHl (p : Pair) : exec (.addHlPair p) s = .next (addToHl p s) := by
  cases p <;> rfl

theorem exec_incPair (p : Pair) : exec (.incPair p) s = .next (Machine.incPair p s) := by
  cases p <;> rfl

theorem exec_decPair (p : Pair) : exec (.decPair p) s = .next (Machine.decPair p s) := by
  cases p <;> rfl

theorem exec_addSp (e : Byte) : exec (.addSpE8 e) s = .next (addToSp e s) := rfl

theorem exec_rotA (left carry : Bool) :
    exec (.rotA left carry) s = .next (rotateA (rotAOp left carry) s) := by
  cases left <;> cases carry <;> rfl

theorem exec_rotReg (op : RotOp) (r : Reg8) : exec (.rotReg op r) s = .next (rotateReg op r s) := by
  cases op <;> cases r <;> rfl

theorem exec_rotHl (op : RotOp) : exec (.rotHl op) s = .next (rotateAtHl op s) := by
  cases op <;> rfl

theorem exec_bitReg (b : Fin 8) (r : Reg8) : exec (.bitReg b r) s = .next (testReg b r s) := by
  fin_cases b <;> cases r <;> rfl

theorem exec_bitHl (b : Fin 8) : exec (.bitHl b) s = .next (testAtHl b s) := by
  fin_cases b <;> rfl

theorem exec_resReg (b : Fin 8) (r : Reg8) : exec (.resReg b r) s = .next (resetReg b r s) := by
  fin_cases b <;> cases r <;> rfl

theorem exec_resHl (b : Fin 8) : exec (.resHl b) s = .next (resetAtHl b s) := by
  fin_cases b <;> rfl

theorem exec_setReg (b : Fin 8) (r : Reg8) :
    exec (.setReg b r) s = .next (Machine.setReg b r s) := by
  fin_cases b <;> cases r <;> rfl

theorem exec_setHl (b : Fin 8) : exec (.setHl b) s = .next (setAtHl b s) := by
  fin_cases b <;> rfl

theorem exec_jp (n : Word) : exec (.jpA16 n) s = .next (jumpTo n 4 s) := rfl

theorem exec_jpCond (cc : Cond) (n : Word) : exec (.jpCond cc n) s = .next (jumpIf cc n s) := by
  cases cc <;> rfl

theorem exec_jpHl : exec .jpHl s = .next (jumpTo s.hl 1 s) := rfl

theorem exec_jr (e : Byte) : exec (.jrE8 e) s = .next (jumpTo (relTarget e s) 3 s) := rfl

theorem exec_jrCond (cc : Cond) (e : Byte) : exec (.jrCond cc e) s = .next (jumpRelIf cc e s) := by
  cases cc <;> rfl

theorem exec_call (n : Word) : exec (.callA16 n) s = .next (callTo n 3 6 s) := rfl

theorem exec_callCond (cc : Cond) (n : Word) : exec (.callCond cc n) s = .next (callIf cc n s) := by
  cases cc <;> rfl

theorem exec_ret : exec .ret s = .next (returnTo 4 s) := rfl

theorem exec_retCond (cc : Cond) : exec (.retCond cc) s = .next (returnIf cc s) := by
  cases cc <;> rfl

theorem exec_reti : exec .reti s = .next (returnFromInterrupt 4 s) := rfl

theorem exec_rst (y : Fin 8) :
    exec (.rst y) s = .next (callTo (BitVec.ofNat 16 (8 * y.val)) 1 4 s) := by
  fin_cases y <;> rfl

theorem exec_nop : exec .nop s = .next (advance 1 1 s) := rfl

theorem exec_halt : exec .halt s = .next (haltAt s) := rfl

theorem exec_stop : exec .stop s = .next (raiseFault (.stopFault s.pc) s) := rfl

theorem exec_di : exec .di s = .next (advance 1 1 { s with ime := false }) := rfl

theorem exec_ei : exec .ei s = .next (advance 1 1 { s with ime := true }) := rfl

theorem exec_pre (op2 : Byte) : exec (.prefixCb op2) s = .next (prefixed op2 s) := rfl

theorem exec_unused (u : UnusedOp) :
    exec (.unused u) s = .next (raiseFault (.illegalOpcode s.pc u.byte) s) := by
  cases u <;> rfl

end meanings

end Sys2Proof.Machine
end

