-- ==== Sys2Proof/Laws/Frame.lean ====
section
/-! SUPPORT. The frames of Sys2Proof/Safety.lean for the shapes the meanings have: an instruction that only
writes registers, one that stores a byte, one that stores a word, and the flag bytes that result. -/

namespace Sys2Proof.Machine

/-! ## Register-only instructions -/

/-- An instruction that only writes the register file, PC and `cpuNext`. -/
theorem regFrame_regs {s : State} (g : Regs) {dst : List Reg8} (target : Word) (cycles : Nat)
    (h : ∀ r, r ∉ dst → ({ s with regs := g } : State).reg8 r = s.reg8 r) :
    RegFrame s (jumpTo target cycles { s with regs := g }) dst target cycles :=
  ⟨⟨rfl, rfl, rfl, rfl, rfl⟩, h, rfl, rfl, SameBus.kept ⟨rfl, rfl, rfl, rfl, rfl, rfl, rfl⟩⟩

/-- One register and the flags written. -/
theorem regFrame_flags {k : Nat} (pol : FlagPolicy) (w : Packed k) (s : State) (r : Reg8) (v : Byte) (len : Word)
    (cycles : Nat) :
    RegFrame s (advance len cycles (setFlags pol w (s.setReg8 r v))) [r] (s.pc + len) cycles :=
  regFrame_regs _ _ _ fun q h => by
    rw [List.mem_singleton] at h
    exact (setFlags_reg8 pol w _ q).trans (State.setReg8_other s v h)

/-- One register written. -/
theorem regFrame_reg (s : State) (r : Reg8) (v : Byte) (len : Word) (cycles : Nat) :
    RegFrame s (advance len cycles (s.setReg8 r v)) [r] (s.pc + len) cycles :=
  regFrame_regs _ _ _ fun q h => by
    rw [List.mem_singleton] at h
    exact State.setReg8_other s v h

/-- Only the flags written. -/
theorem regFrame_onlyFlags {k : Nat} (pol : FlagPolicy) (w : Packed k) (s : State) (len : Word) (cycles : Nat) :
    RegFrame s (advance len cycles (setFlags pol w s)) [] (s.pc + len) cycles :=
  regFrame_regs _ _ _ fun q _ => setFlags_reg8 pol w s q

/-- No register written: a jump, or an instruction without effect. -/
theorem regFrame_none (s : State) (target : Word) (cycles : Nat) :
    RegFrame s (jumpTo target cycles s) [] target cycles :=
  regFrame_regs s.regs _ _ fun _ _ => rfl

/-- A frame holds for a longer list of destinations. -/
theorem RegFrame.weaken {s t : State} {d e : List Reg8} {target : Word} {cycles : Nat}
    (h : RegFrame s t d target cycles) (k : ∀ r ∈ d, r ∈ e) : RegFrame s t e target cycles :=
  ⟨h.ends, fun r m => h.regs r fun n => m (k r n), h.sp, h.ime, h.bus⟩

/-! ## Pairs -/

/-- A pair written, with or without the flags. -/
theorem pairFrame_set (s : State) (p : Pair) (w : Word) (len : Word) (cycles : Nat) :
    PairFrame s (advance len cycles (s.setPair p w)) p (s.pc + len) cycles := by
  cases p <;> refine ⟨⟨rfl, rfl, rfl, rfl, rfl⟩, rfl, fun q h => ?_, rfl,
    SameBus.kept ⟨rfl, rfl, rfl, rfl, rfl, rfl, rfl⟩⟩ <;> cases q <;> first | rfl | exact absurd rfl h

theorem pairFrame_flags {k : Nat} (pol : FlagPolicy) (x : Packed k) (s : State) (p : Pair) (w : Word) (len : Word)
    (cycles : Nat) :
    PairFrame s (advance len cycles (setFlags pol x (s.setPair p w))) p (s.pc + len) cycles := by
  cases p <;> refine ⟨⟨rfl, rfl, rfl, rfl, rfl⟩, rfl, fun q h => ?_, rfl,
    SameBus.kept ⟨rfl, rfl, rfl, rfl, rfl, rfl, rfl⟩⟩ <;> cases q <;> first | rfl | exact absurd rfl h

/-! ## Stores -/

/-- A byte stored, with the flags written or not, and PC moved on. -/
theorem storeFrame_flags {k : Nat} (pol : FlagPolicy) (w : Packed k) (s : State) (a : Word) (v : Byte) (len : Word)
    (cycles : Nat) :
    StoreFrame s (advance len cycles (setFlags pol w (busWrite a v s))) [] (s.pc + len) cycles a v where
  ends := ⟨by simp, by simp, by simp, by simp, by simp⟩
  regs q _ := by simp
  sp := by simp
  ime := by simp
  store := (storedByte a v s).of_sameBus ⟨rfl, rfl, rfl, rfl, rfl, rfl, rfl⟩

theorem storeFrame_byte (s : State) (a : Word) (v : Byte) (len : Word) (cycles : Nat) :
    StoreFrame s (advance len cycles (busWrite a v s)) [] (s.pc + len) cycles a v where
  ends := ⟨by simp, by simp, by simp, by simp, by simp⟩
  regs q _ := by simp
  sp := by simp
  ime := by simp
  store := (storedByte a v s).of_sameBus ⟨rfl, rfl, rfl, rfl, rfl, rfl, rfl⟩

/-- A byte stored at HL, and HL moved afterwards. -/
theorem storeFrame_hl (s : State) (a : Word) (v : Byte) (w : Word) (len : Word) (cycles : Nat) :
    StoreFrame s (advance len cycles ((busWrite a v s).setHl w)) [.h, .l] (s.pc + len) cycles a v where
  ends := ⟨by simp, by simp, by simp, by simp, by simp⟩
  regs q h := by
    simp only [List.mem_cons, List.not_mem_nil, or_false, not_or] at h
    simp [State.setHl_other _ _ h.1 h.2]
  sp := by simp
  ime := by simp
  store := (storedByte a v s).of_sameBus ⟨rfl, rfl, rfl, rfl, rfl, rfl, rfl⟩

@[simp] theorem memWrite16_regs (a w : Word) (s : State) : (memWrite16 a w s).regs = s.regs := by simp [memWrite16]
@[simp] theorem memWrite16_pc (a w : Word) (s : State) : (memWrite16 a w s).pc = s.pc := by simp [memWrite16]
@[simp] theorem memWrite16_sp (a w : Word) (s : State) : (memWrite16 a w s).sp = s.sp := by simp [memWrite16]
@[simp] theorem memWrite16_ime (a w : Word) (s : State) : (memWrite16 a w s).ime = s.ime := by simp [memWrite16]
@[simp] theorem memWrite16_cycle (a w : Word) (s : State) : (memWrite16 a w s).cycle = s.cycle := by
  simp [memWrite16]
@[simp] theorem memWrite16_cpuNext (a w : Word) (s : State) : (memWrite16 a w s).cpuNext = s.cpuNext := by
  simp [memWrite16]
@[simp] theorem memWrite16_fault (a w : Word) (s : State) : (memWrite16 a w s).fault = s.fault := by
  simp [memWrite16]
@[simp] theorem memWrite16_haltWake (a w : Word) (s : State) : (memWrite16 a w s).haltWake = s.haltWake := by
  simp [memWrite16]

/-! ## The bus does not see the processor's private state -/

/-- `s` with what the bus cannot reach taken from `k`. -/
def State.withCpu (s k : State) : State :=
  { s with cycle := k.cycle, fault := k.fault, regs := k.regs, pc := k.pc, sp := k.sp, ime := k.ime,
           cpuNext := k.cpuNext, haltWake := k.haltWake }

theorem SameBus.eq_withCpu {s t : State} (h : SameBus s t) : t = s.withCpu t := by
  obtain ⟨h1, h2, h3, h4, h5, h6, h7⟩ := h
  cases s; cases t
  subst h1 h2 h3 h4 h5 h6 h7
  rfl

theorem timaTick_withCpu (s k : State) : timaTick (s.withCpu k) = (timaTick s).withCpu k := by
  unfold timaTick
  split <;> rename_i h <;> first | rw [if_pos (show s.timer.tima = 0xFF from h)] | rw [if_neg (show ¬s.timer.tima = 0xFF from h)]
  all_goals rfl

theorem timerEdge_withCpu (t : Timer) (s k : State) : timerEdge t (s.withCpu k) = (timerEdge t s).withCpu k := by
  show (if s.timer.armed && !t.armed then timaTick (State.withCpu { s with timer := t } k)
    else State.withCpu { s with timer := t } k) = _
  rw [timaTick_withCpu]
  exact (apply_ite (fun u : State => u.withCpu k) _ _ _).symm

theorem coincidence_withCpu (s k : State) : coincidence (s.withCpu k) = (coincidence s).withCpu k := by
  unfold coincidence
  simp only [apply_ite (fun u : State => u.withCpu k)]
  rfl

theorem writeLcdc_withCpu (v : Byte) (s k : State) : writeLcdc v (s.withCpu k) = (writeLcdc v s).withCpu k := by
  unfold writeLcdc powerOff setLy
  simp only [apply_ite (fun u : State => u.withCpu k)]
  congr 1
  exact congrArg (fun u : State => { u with lcd := { u.lcd with next := none } })
    (coincidence_withCpu { s with lcd := { ({ s.lcd with lcdc := v } : Lcd).withMode 0 with ly := 0 } } k)

theorem writeLyc_withCpu (v : Byte) (s k : State) : writeLyc v (s.withCpu k) = (writeLyc v s).withCpu k :=
  coincidence_withCpu { s with lcd := { s.lcd with lyc := v } } k

theorem busWrite_withCpu (a : Word) (v : Byte) (s k : State) :
    busWrite a v (s.withCpu k) = (busWrite a v s).withCpu k := by
  have h1 (s : State) : wramWrite a v (s.withCpu k) = (wramWrite a v s).withCpu k := by
    unfold wramWrite; split <;> rfl
  have h2 (s : State) : echoWrite a v (s.withCpu k) = (echoWrite a v s).withCpu k := by
    unfold echoWrite; split <;> rfl
  have h3 (s : State) : cpuWrite a v (s.withCpu k) = (cpuWrite a v s).withCpu k := by
    unfold cpuWrite; simp only [apply_ite (fun u : State => u.withCpu k)]; rfl
  have h4 (s : State) : extWrite a v (s.withCpu k) = (extWrite a v s).withCpu k := rfl
  have h5 (s : State) : timerWrite a v (s.withCpu k) = (timerWrite a v s).withCpu k := by
    unfold timerWrite writeDiv writeTac
    simp only [apply_ite (fun u : State => u.withCpu k), ← timerEdge_withCpu]; rfl
  have h6 (s : State) : displayWrite a v (s.withCpu k) = (displayWrite a v s).withCpu k := by
    unfold displayWrite
    simp only [apply_ite (fun u : State => u.withCpu k), ← writeLcdc_withCpu, ← writeLyc_withCpu]; rfl
  have h7 (s : State) : joypadWrite a v (s.withCpu k) = (joypadWrite a v s).withCpu k := rfl
  unfold busWrite
  rw [h1, h2, h3, h4, h5, h6, h7]

/-- A bus write does the same to the devices whatever the processor's private state is. -/
theorem SameBus.write {s t : State} (h : SameBus s t) (a : Word) (v : Byte) :
    SameBus (busWrite a v s) (busWrite a v t) := by
  rw [h.eq_withCpu, busWrite_withCpu]
  exact ⟨rfl, rfl, rfl, rfl, rfl, rfl, rfl⟩

/-- A word stored from a state that differs only in the processor's private state. -/
theorem StoredWord.of_from {s s' t : State} {a w : Word} (h : StoredWord s' t a w) (hs : SameBus s s') :
    StoredWord s t a w where
  bus := ((hs.write _ _).write _ _).trans h.bus
  low r := h.low (by unfold readsBack at *; rw [hs.ext]; exact r)
  high r := h.high (by unfold readsBack at *; rw [hs.ext]; exact r)
  frame b r1 r2 := by
    rw [h.frame b (by unfold storeReaches at *; rw [hs.ext]; exact r1)
      (by unfold storeReaches at *; rw [hs.ext]; exact r2)]
    exact hs.read b

/-! ## The stack -/

theorem pushFaults_false {s : State} (h : s.sp ≠ 0x0001) : pushFaults s = false := by
  unfold pushFaults secondByteOut pushAddr
  rw [beq_eq_false_iff_ne]
  intro e
  exact h (by bv_omega)

theorem pushFaults_true {s : State} (h : s.sp = 0x0001) : pushFaults s = true := by
  unfold pushFaults secondByteOut pushAddr
  rw [h]; rfl

theorem popFaults_false {s : State} (h : s.sp ≠ 0xFFFF) : popFaults s = false := beq_eq_false_iff_ne.mpr h

theorem popFaults_true {s : State} (h : s.sp = 0xFFFF) : popFaults s = true := beq_iff_eq.mpr h

/-- What a push that does not fault stores. -/
theorem push16_stored (w : Word) (s : State) (h : s.sp ≠ 0x0001) : StoredWord s (push16 w s) (s.sp - 2) w := by
  refine (storedWord (pushAddr s) w { s with sp := pushAddr s } ?_).of_from ⟨rfl, rfl, rfl, rfl, rfl, rfl, rfl⟩
  intro e
  have := pushFaults_false h
  unfold pushFaults secondByteOut at this
  rw [e] at this
  exact absurd this (by decide)

@[simp] theorem push16_pc (w : Word) (s : State) : (push16 w s).pc = s.pc := by simp [push16]
@[simp] theorem push16_regs (w : Word) (s : State) : (push16 w s).regs = s.regs := by simp [push16]
@[simp] theorem push16_ime (w : Word) (s : State) : (push16 w s).ime = s.ime := by simp [push16]
@[simp] theorem push16_cycle (w : Word) (s : State) : (push16 w s).cycle = s.cycle := by simp [push16]
@[simp] theorem push16_fault (w : Word) (s : State) : (push16 w s).fault = s.fault := by simp [push16]
@[simp] theorem push16_cpuNext (w : Word) (s : State) : (push16 w s).cpuNext = s.cpuNext := by simp [push16]
@[simp] theorem push16_haltWake (w : Word) (s : State) : (push16 w s).haltWake = s.haltWake := by simp [push16]

/-- A push, then the end of the instruction. -/
theorem push_frame (w : Word) (s : State) (target : Word) (cycles : Nat) (h : s.sp ≠ 0x0001) :
    (jumpTo target cycles (push16 w s)).sp = s.sp - 2
      ∧ StoreWordFrame s (jumpTo target cycles (push16 w s)) target cycles (s.sp - 2) w :=
  ⟨by simp [push16, pushAddr],
    ⟨⟨by simp, by simp [push16], by simp [push16], by simp [push16], by simp [push16]⟩, by simp [push16],
      by simp [push16], (push16_stored w s h).of_sameBus ⟨rfl, rfl, rfl, rfl, rfl, rfl, rfl⟩⟩⟩

/-- A return's pop, then the jump to the popped address. -/
theorem pop_frame (s : State) (cycles : Nat) : ReturnFrame s (jumpTo (popValue s) cycles (popSp s)) cycles :=
  ⟨⟨rfl, rfl, rfl, rfl, rfl⟩, rfl, rfl, SameBus.kept ⟨rfl, rfl, rfl, rfl, rfl, rfl, rfl⟩⟩

theorem condHolds_law (cc : Cond) (s : State) : condHolds cc s = condLaw cc s.regs.f := by cases cc <;> rfl

end Sys2Proof.Machine
end

