-- ==== Sys2Proof/Laws/Ran.lean ====
section
/-! SUPPORT. What any instruction can do, said once: it raises a fault and changes nothing else, or it ran, and
then `Ran` holds. A proof about all instructions cites `exec_ran`. -/

namespace Sys2Proof.Machine

/-- The devices of `t` are those of `s` after at most two bus writes. -/
def BusReached (s t : State) : Prop :=
  SameBus s t ∨ (∃ a v, SameBus (busWrite a v s) t) ∨ ∃ a v b w, SameBus (busWrite b w (busWrite a v s)) t

/-- What every instruction that raises no fault does. -/
structure Ran (i : Instr) (s t : State) : Prop where
  cycle    : t.cycle = s.cycle
  fault    : t.fault = s.fault
  haltWake : t.haltWake = s.haltWake
  due      : (∃ k, 1 ≤ k ∧ k ≤ 6 ∧ t.cpuNext = some (s.cycle + k)) ∨ (i = .halt ∧ t.cpuNext = none)
  bus      : BusReached s t
  ime      : t.ime = s.ime ∨ i = .ei ∨ i = .di ∨ i = .reti
  flags    : t.regs.f = s.regs.f ∨ (WritesFlags i ∧ t.regs.f &&& 0x0F = 0)

section frames
variable {i : Instr} {s t : State} {target : Word} {k : Nat}

theorem EndsAt.due (h : EndsAt s t target k) (hk : 1 ≤ k ∧ k ≤ 6) :
    (∃ k, 1 ≤ k ∧ k ≤ 6 ∧ t.cpuNext = some (s.cycle + k)) ∨ (i = .halt ∧ t.cpuNext = none) :=
  .inl ⟨k, hk.1, hk.2, h.cpuNext⟩

theorem RegFrame.ran {dst : List Reg8} (h : RegFrame s t dst target k) (hk : 1 ≤ k ∧ k ≤ 6)
    (hf : t.regs.f = s.regs.f ∨ (WritesFlags i ∧ t.regs.f &&& 0x0F = 0)) : Ran i s t :=
  ⟨h.ends.cycle, h.ends.fault, h.ends.haltWake, h.ends.due hk, .inl h.bus.same, .inl h.ime, hf⟩

theorem PairFrame.ran {p : Pair} (h : PairFrame s t p target k) (hk : 1 ≤ k ∧ k ≤ 6)
    (hf : t.regs.f = s.regs.f ∨ (WritesFlags i ∧ t.regs.f &&& 0x0F = 0)) : Ran i s t :=
  ⟨h.ends.cycle, h.ends.fault, h.ends.haltWake, h.ends.due hk, .inl h.bus.same, .inl h.ime, hf⟩

theorem StoreFrame.ran {dst : List Reg8} {a : Word} {v : Byte} (h : StoreFrame s t dst target k a v)
    (hk : 1 ≤ k ∧ k ≤ 6) (hf : t.regs.f = s.regs.f ∨ (WritesFlags i ∧ t.regs.f &&& 0x0F = 0)) : Ran i s t :=
  ⟨h.ends.cycle, h.ends.fault, h.ends.haltWake, h.ends.due hk, .inr (.inl ⟨a, v, h.store.bus⟩), .inl h.ime, hf⟩

theorem StoreWordFrame.ran {a w : Word} (h : StoreWordFrame s t target k a w) (hk : 1 ≤ k ∧ k ≤ 6) : Ran i s t :=
  ⟨h.ends.cycle, h.ends.fault, h.ends.haltWake, h.ends.due hk, .inr (.inr ⟨_, _, _, _, h.store.bus⟩), .inl h.ime,
    .inl (congrArg Regs.f h.regs)⟩

theorem ReturnFrame.ran (h : ReturnFrame s t k) (hk : 1 ≤ k ∧ k ≤ 6)
    (hi : t.ime = s.ime ∨ i = .ei ∨ i = .di ∨ i = .reti) : Ran i s t :=
  ⟨h.ends.cycle, h.ends.fault, h.ends.haltWake, h.ends.due hk, .inl h.bus.same, hi, .inl (congrArg Regs.f h.regs)⟩

end frames

/-- Flags written through `setFlags` leave F's low nibble zero. -/
theorem setFlags_low {k : Nat} (pol : FlagPolicy) (w : Packed k) (u : State) :
    (setFlags pol w u).regs.f &&& 0x0F = 0 := by
  rw [setFlags_f]
  exact flagByte_low _ _ _ _

theorem push_ran {i : Instr} (w : Word) (s : State) (target : Word) (k : Nat) (hk : 1 ≤ k ∧ k ≤ 6) :
    (∃ f, (if pushFaults s then raiseFault addressFault s else jumpTo target k (push16 w s)) = raiseFault f s)
      ∨ Ran i s (if pushFaults s then raiseFault addressFault s else jumpTo target k (push16 w s)) := by
  by_cases h : s.sp = 0x0001
  · exact .inl ⟨_, if_pos (pushFaults_true h)⟩
  · rw [if_neg (by simp [pushFaults_false h])]
    exact .inr ((push_frame w s target k h).2.ran hk)

theorem return_ran {i : Instr} (s : State) (k : Nat) (hk : 1 ≤ k ∧ k ≤ 6) :
    (∃ f, returnTo k s = raiseFault f s) ∨ Ran i s (returnTo k s) := by
  unfold returnTo
  split
  · exact .inl ⟨_, rfl⟩
  · exact .inr ((pop_frame s k).ran hk (.inl rfl))

section shapes
variable {i : Instr} {k : Nat} (pol : FlagPolicy) (x : Packed k) (s : State) (len : Word) (n : Nat)
  (hn : 1 ≤ n ∧ n ≤ 6) (w : WritesFlags i)
include hn w

theorem ran_flags (r : Reg8) (v : Byte) : Ran i s (advance len n (setFlags pol x (s.setReg8 r v))) :=
  (regFrame_flags pol x s r v len n).ran hn
    (.inr ⟨w, (congrArg (fun g : Regs => g.f &&& 0x0F) (advance_regs _ _ _)).trans (setFlags_low pol x _)⟩)

theorem ran_onlyFlags : Ran i s (advance len n (setFlags pol x s)) :=
  (regFrame_onlyFlags pol x s len n).ran hn
    (.inr ⟨w, (congrArg (fun g : Regs => g.f &&& 0x0F) (advance_regs _ _ _)).trans (setFlags_low pol x _)⟩)

theorem ran_pairFlags (p : Pair) (v : Word) : Ran i s (advance len n (setFlags pol x (s.setPair p v))) :=
  (pairFrame_flags pol x s p v len n).ran hn
    (.inr ⟨w, (congrArg (fun g : Regs => g.f &&& 0x0F) (advance_regs _ _ _)).trans (setFlags_low pol x _)⟩)

theorem ran_storeFlags (a : Word) (v : Byte) : Ran i s (advance len n (setFlags pol x (busWrite a v s))) :=
  (storeFrame_flags pol x s a v len n).ran hn
    (.inr ⟨w, (congrArg (fun g : Regs => g.f &&& 0x0F) (advance_regs _ _ _)).trans (setFlags_low pol x _)⟩)

end shapes

/-- A meaning's outcome: a fault and nothing else, or `Ran`. -/
abbrev Meant (i : Instr) (s t : State) : Prop := (∃ f, t = raiseFault f s) ∨ Ran i s t

section meanings
variable {i : Instr} (s : State)

theorem meant_move (r q : Reg8) : Meant i s (moveReg r q s) :=
  .inr ((regFrame_reg ..).ran (by decide) (.inl (by simp)))
theorem meant_loadImm (r : Reg8) (n : Byte) : Meant i s (loadImm r n s) :=
  .inr ((regFrame_reg ..).ran (by decide) (.inl (by simp)))
theorem meant_loadHl (r : Reg8) : Meant i s (loadFromHl r s) :=
  .inr ((regFrame_reg ..).ran (by decide) (.inl (by simp)))
theorem meant_storeHl (r : Reg8) : Meant i s (storeAtHl r s) :=
  .inr ((storeFrame_byte ..).ran (by decide) (.inl (by simp)))
theorem meant_storeHlImm (n : Byte) : Meant i s (storeImmAtHl n s) :=
  .inr ((storeFrame_byte ..).ran (by decide) (.inl (by simp)))
theorem meant_loadA (a len : Word) (k : Nat) (hk : 1 ≤ k ∧ k ≤ 6) : Meant i s (loadAFrom a len k s) :=
  .inr ((regFrame_reg ..).ran hk (.inl (by simp)))
theorem meant_storeA (a len : Word) (k : Nat) (hk : 1 ≤ k ∧ k ≤ 6) : Meant i s (storeATo a len k s) :=
  .inr ((storeFrame_byte ..).ran hk (.inl (by simp)))
theorem pointer_cycles (p : Pointer) : 1 ≤ p.cycles ∧ p.cycles ≤ 6 := by cases p <;> simp [Pointer.cycles]

theorem meant_loadAInc : Meant i s (loadAThen incHlPtr s) :=
  .inr ((regFrame_regs (dst := [.b, .c, .d, .e, .h, .l, .a]) _ _ _ fun q h => absurd (by cases q <;> simp) h).ran
    (by decide) (.inl rfl))
theorem meant_loadADec : Meant i s (loadAThen decHlPtr s) :=
  .inr ((regFrame_regs (dst := [.b, .c, .d, .e, .h, .l, .a]) _ _ _ fun q h => absurd (by cases q <;> simp) h).ran
    (by decide) (.inl rfl))
theorem meant_storeAInc : Meant i s (storeAThen incHlPtr s) :=
  .inr ((storeFrame_hl s s.hl s.regs.a ((writeHl s.regs.a s).hl + 1) 1 2).ran (by decide) (.inl (by simp)))
theorem meant_storeADec : Meant i s (storeAThen decHlPtr s) :=
  .inr ((storeFrame_hl s s.hl s.regs.a ((writeHl s.regs.a s).hl - 1) 1 2).ran (by decide) (.inl (by simp)))
theorem meant_pairImm (p : Pair) (n : Word) : Meant i s (loadPairImm p n s) :=
  .inr ((pairFrame_set ..).ran (by decide) (.inl (by simp)))
theorem meant_storeSp (n : Word) : Meant i s (storeSp n s) := by
  unfold storeSp
  by_cases h : n = 0xFFFF
  · exact .inl ⟨_, if_pos (by simp [secondByteOut, h])⟩
  · rw [if_neg (by simpa [secondByteOut] using h)]
    exact .inr ⟨by simp, by simp, by simp, .inl ⟨5, by decide, by decide, by simp⟩,
      .inr (.inr ⟨n, lo8 s.sp, n + 1, hi8 s.sp, ⟨rfl, rfl, rfl, rfl, rfl, rfl, rfl⟩⟩), .inl (by simp), .inl (by simp)⟩
theorem meant_spHl : Meant i s (loadSpFromHl s) := .inr ((pairFrame_set ..).ran (by decide) (.inl (by simp)))
theorem meant_hlSp (e : Byte) (w : WritesFlags i) : Meant i s (loadHlFromSp e s) :=
  .inr (ran_pairFlags polAddSp (add16L s.sp (sext16 e)) s 2 3 (by decide) w .hl _)
theorem meant_push (q : StackPair) : Meant i s (pushPair q s) := by
  have h := push_ran (i := i) (s.stackPair q) s (s.pc + 1) 4 (by decide)
  unfold pushPair advance
  rwa [push16_pc]
theorem setStackPair_flags (q : StackPair) (w : Word) :
    (s.setStackPair q w).regs.f = s.regs.f ∨ (q = .af ∧ (s.setStackPair q w).regs.f &&& 0x0F = 0) := by
  cases q <;> first | exact .inl rfl | skip
  refine .inr ⟨rfl, ?_⟩
  show (lo8 w &&& 0xF0) &&& 0x0F = 0
  rw [BitVec.and_assoc]
  exact BitVec.and_zero
theorem meant_pop (q : StackPair) (w : q = .af → WritesFlags i) : Meant i s (popPair q s) := by
  unfold popPair
  split
  · exact .inl ⟨_, rfl⟩
  · exact .inr ⟨by simp, by simp, by simp, .inl ⟨3, by decide, by decide, by simp⟩,
      .inl ⟨by simp, by simp, by simp, by simp, by simp, by simp, by simp⟩, .inl (by simp),
      (setStackPair_flags (popSp s) q _).imp id fun h => ⟨w h.1, h.2⟩⟩
theorem meant_aluReg (op : AluOp) (r : Reg8) (w : WritesFlags i) : Meant i s (Machine.aluReg op r s) :=
  .inr (ran_flags _ _ s _ _ (by decide) w _ _)
theorem meant_aluHl (op : AluOp) (w : WritesFlags i) : Meant i s (aluAtHl op s) :=
  .inr (ran_flags _ _ s _ _ (by decide) w _ _)
theorem meant_aluImm (op : AluOp) (n : Byte) (w : WritesFlags i) : Meant i s (aluImm op n s) :=
  .inr (ran_flags _ _ s _ _ (by decide) w _ _)
theorem meant_incReg (r : Reg8) (w : WritesFlags i) : Meant i s (Machine.incReg r s) :=
  .inr (ran_flags _ _ s _ _ (by decide) w _ _)
theorem meant_decReg (r : Reg8) (w : WritesFlags i) : Meant i s (Machine.decReg r s) :=
  .inr (ran_flags _ _ s _ _ (by decide) w _ _)
theorem meant_incHl (w : WritesFlags i) : Meant i s (incAtHl s) :=
  .inr (ran_storeFlags _ _ s _ _ (by decide) w _ _)
theorem meant_decHl (w : WritesFlags i) : Meant i s (decAtHl s) :=
  .inr (ran_storeFlags _ _ s _ _ (by decide) w _ _)
theorem meant_daa (w : WritesFlags i) : Meant i s (decimalAdjust s) :=
  .inr (ran_flags _ _ s _ _ (by decide) w _ _)
theorem meant_cpl (w : WritesFlags i) : Meant i s (complementA s) :=
  .inr (ran_flags _ _ s _ _ (by decide) w _ _)
theorem meant_scf (w : WritesFlags i) : Meant i s (setCarry s) :=
  .inr (ran_onlyFlags _ _ s _ _ (by decide) w)
theorem meant_ccf (w : WritesFlags i) : Meant i s (complementCarry s) :=
  .inr (ran_onlyFlags _ _ s _ _ (by decide) w)
theorem meant_addHl (p : Pair) (w : WritesFlags i) : Meant i s (addToHl p s) :=
  .inr (ran_pairFlags polAddHl (add16H s.hl (s.pair p)) s 1 2 (by decide) w .hl _)
theorem meant_incPair (p : Pair) : Meant i s (Machine.incPair p s) :=
  .inr ((pairFrame_set ..).ran (by decide) (.inl (by simp)))
theorem meant_decPair (p : Pair) : Meant i s (Machine.decPair p s) :=
  .inr ((pairFrame_set ..).ran (by decide) (.inl (by simp)))
theorem meant_addSp (e : Byte) (w : WritesFlags i) : Meant i s (addToSp e s) :=
  .inr (ran_pairFlags polAddSp (add16L s.sp (sext16 e)) s 2 4 (by decide) w .sp _)
theorem meant_rotA (op : RotOp) (w : WritesFlags i) : Meant i s (rotateA op s) :=
  .inr (ran_flags _ _ s _ _ (by decide) w _ _)
theorem meant_rotReg (op : RotOp) (r : Reg8) (w : WritesFlags i) : Meant i s (rotateReg op r s) :=
  .inr (ran_flags _ _ s _ _ (by decide) w _ _)
theorem meant_rotHl (op : RotOp) (w : WritesFlags i) : Meant i s (rotateAtHl op s) :=
  .inr (ran_storeFlags _ _ s _ _ (by decide) w _ _)
theorem meant_bitReg (b : Fin 8) (r : Reg8) (w : WritesFlags i) : Meant i s (testReg b r s) :=
  .inr (ran_onlyFlags _ _ s _ _ (by decide) w)
theorem meant_bitHl (b : Fin 8) (w : WritesFlags i) : Meant i s (testAtHl b s) :=
  .inr (ran_onlyFlags _ _ s _ _ (by decide) w)
theorem meant_resReg (b : Fin 8) (r : Reg8) : Meant i s (resetReg b r s) :=
  .inr ((regFrame_reg ..).ran (by decide) (.inl (by simp)))
theorem meant_resHl (b : Fin 8) : Meant i s (resetAtHl b s) :=
  .inr ((storeFrame_byte ..).ran (by decide) (.inl (by simp)))
theorem meant_setReg (b : Fin 8) (r : Reg8) : Meant i s (Machine.setReg b r s) :=
  .inr ((regFrame_reg ..).ran (by decide) (.inl (by simp)))
theorem meant_setHl (b : Fin 8) : Meant i s (setAtHl b s) :=
  .inr ((storeFrame_byte ..).ran (by decide) (.inl (by simp)))
theorem meant_jump (n : Word) (k : Nat) (hk : 1 ≤ k ∧ k ≤ 6) : Meant i s (jumpTo n k s) :=
  .inr ((regFrame_none ..).ran hk (.inl rfl))
theorem meant_jumpIf (cc : Cond) (n : Word) : Meant i s (jumpIf cc n s) := by
  unfold jumpIf
  split <;> exact meant_jump s _ _ (by decide)
theorem meant_jumpRelIf (cc : Cond) (e : Byte) : Meant i s (jumpRelIf cc e s) := by
  unfold jumpRelIf
  split <;> exact meant_jump s _ _ (by decide)
theorem meant_call (n len : Word) (k : Nat) (hk : 1 ≤ k ∧ k ≤ 6) : Meant i s (callTo n len k s) :=
  push_ran _ s n k hk
theorem meant_callIf (cc : Cond) (n : Word) : Meant i s (callIf cc n s) := by
  unfold callIf
  split
  · exact meant_call s _ _ _ (by decide)
  · exact meant_jump s _ _ (by decide)
theorem meant_return (k : Nat) (hk : 1 ≤ k ∧ k ≤ 6) : Meant i s (returnTo k s) := return_ran s k hk
theorem meant_returnIf (cc : Cond) : Meant i s (returnIf cc s) := by
  unfold returnIf
  split
  · exact return_ran s _ (by decide)
  · exact meant_jump s _ _ (by decide)
theorem meant_reti (h : i = .reti) : Meant i s (returnFromInterrupt 4 s) := by
  unfold returnFromInterrupt
  split
  · exact .inl ⟨_, rfl⟩
  · exact .inr ⟨rfl, rfl, rfl, .inl ⟨4, by decide, by decide, rfl⟩, .inl ⟨rfl, rfl, rfl, rfl, rfl, rfl, rfl⟩,
      .inr (.inr (.inr h)), .inl rfl⟩
theorem meant_halt (h : i = .halt) : Meant i s (haltAt s) :=
  .inr ⟨rfl, rfl, rfl, .inr ⟨h, rfl⟩, .inl ⟨rfl, rfl, rfl, rfl, rfl, rfl, rfl⟩, .inl rfl, .inl rfl⟩
theorem meant_fault (f : Fault) : Meant i s (raiseFault f s) := .inl ⟨f, rfl⟩
theorem meant_ime (b : Bool) (h : i = .ei ∨ i = .di) : Meant i s (advance 1 1 { s with ime := b }) :=
  .inr ⟨rfl, rfl, rfl, .inl ⟨1, by decide, by decide, rfl⟩, .inl ⟨rfl, rfl, rfl, rfl, rfl, rfl, rfl⟩,
    .inr (h.imp id .inl), .inl rfl⟩
theorem meant_prefixed (op2 : Byte) (w : WritesFlags i) : Meant i s (prefixed op2 s) := by
  unfold prefixed
  generalize (fieldX op2).toNat = k
  rcases k with _ | _ | _ | k <;> (cases r8 (fieldZ op2))
  · exact meant_rotReg s _ _ w
  · exact meant_rotHl s _ w
  · exact meant_bitReg s _ _ w
  · exact meant_bitHl s _ w
  · exact meant_resReg s _ _
  · exact meant_resHl s _
  · exact meant_setReg s _ _
  · exact meant_setHl s _

end meanings

/-- What any instruction can do. -/
theorem exec_ran (i : Instr) (s : State) : ∃ t, exec i s = .next t ∧ Meant i s t := by
  cases family_all i with
  | move r q => exact ⟨_, exec_move s r q, meant_move s r q⟩
  | loadImm r n => exact ⟨_, exec_loadImm s r n, meant_loadImm s r n⟩
  | loadHl r => exact ⟨_, exec_loadHl s r, meant_loadHl s r⟩
  | storeHl r => exact ⟨_, exec_storeHl s r, meant_storeHl s r⟩
  | storeHlImm n => exact ⟨_, exec_storeHlImm s n, meant_storeHlImm s n⟩
  | loadA p => exact ⟨_, exec_loadA s p, meant_loadA s _ _ _ (pointer_cycles p)⟩
  | storeA p => exact ⟨_, exec_storeA s p, meant_storeA s _ _ _ (pointer_cycles p)⟩
  | loadAInc => exact ⟨_, exec_loadAInc s, meant_loadAInc s⟩
  | loadADec => exact ⟨_, exec_loadADec s, meant_loadADec s⟩
  | storeAInc => exact ⟨_, exec_storeAInc s, meant_storeAInc s⟩
  | storeADec => exact ⟨_, exec_storeADec s, meant_storeADec s⟩
  | pairImm p n => exact ⟨_, exec_pairImm s p n, meant_pairImm s p n⟩
  | storeSp n => exact ⟨_, exec_storeSp s n, meant_storeSp s n⟩
  | spHl => exact ⟨_, exec_spHl s, meant_spHl s⟩
  | hlSp e => exact ⟨_, exec_hlSp s e, meant_hlSp s e (.ldHlSpE8 e)⟩
  | push q => exact ⟨_, exec_push s q, meant_push s q⟩
  | pop q => exact ⟨_, exec_pop s q, meant_pop s q fun h => by subst h; exact .popAf⟩
  | aluReg op r => exact ⟨_, exec_aluReg s op r, meant_aluReg s op r (.alu op (.reg r))⟩
  | aluHl op => exact ⟨_, exec_aluHl s op, meant_aluHl s op (.alu op .atHl)⟩
  | aluImm op n => exact ⟨_, exec_aluImm s op n, meant_aluImm s op n (.alu op (.imm n))⟩
  | incReg r => exact ⟨_, exec_incReg s r, meant_incReg s r (.incReg r)⟩
  | decReg r => exact ⟨_, exec_decReg s r, meant_decReg s r (.decReg r)⟩
  | incHl => exact ⟨_, exec_incHl s, meant_incHl s .incAtHl⟩
  | decHl => exact ⟨_, exec_decHl s, meant_decHl s .decAtHl⟩
  | daa => exact ⟨_, exec_daa s, meant_daa s .daa⟩
  | cpl => exact ⟨_, exec_cpl s, meant_cpl s .cpl⟩
  | scf => exact ⟨_, exec_scf s, meant_scf s .scf⟩
  | ccf => exact ⟨_, exec_ccf s, meant_ccf s .ccf⟩
  | addHl p => exact ⟨_, exec_addHl s p, meant_addHl s p (.addHlPair p)⟩
  | incPair p => exact ⟨_, exec_incPair s p, meant_incPair s p⟩
  | decPair p => exact ⟨_, exec_decPair s p, meant_decPair s p⟩
  | addSp e => exact ⟨_, exec_addSp s e, meant_addSp s e (.addSpE8 e)⟩
  | rotA l c => exact ⟨_, exec_rotA s l c, meant_rotA s _ (.rotA l c)⟩
  | rotReg op r => exact ⟨_, exec_rotReg s op r, meant_rotReg s op r (.rotReg op r)⟩
  | rotHl op => exact ⟨_, exec_rotHl s op, meant_rotHl s op (.rotHl op)⟩
  | bitReg b r => exact ⟨_, exec_bitReg s b r, meant_bitReg s b r (.bitReg b r)⟩
  | bitHl b => exact ⟨_, exec_bitHl s b, meant_bitHl s b (.bitHl b)⟩
  | resReg b r => exact ⟨_, exec_resReg s b r, meant_resReg s b r⟩
  | resHl b => exact ⟨_, exec_resHl s b, meant_resHl s b⟩
  | setReg b r => exact ⟨_, exec_setReg s b r, meant_setReg s b r⟩
  | setHl b => exact ⟨_, exec_setHl s b, meant_setHl s b⟩
  | jp n => exact ⟨_, exec_jp s n, meant_jump s _ _ (by decide)⟩
  | jpCond cc n => exact ⟨_, exec_jpCond s cc n, meant_jumpIf s cc n⟩
  | jpHl => exact ⟨_, exec_jpHl s, meant_jump s _ _ (by decide)⟩
  | jr e => exact ⟨_, exec_jr s e, meant_jump s _ _ (by decide)⟩
  | jrCond cc e => exact ⟨_, exec_jrCond s cc e, meant_jumpRelIf s cc e⟩
  | call n => exact ⟨_, exec_call s n, meant_call s _ _ _ (by decide)⟩
  | callCond cc n => exact ⟨_, exec_callCond s cc n, meant_callIf s cc n⟩
  | ret => exact ⟨_, exec_ret s, meant_return s _ (by decide)⟩
  | retCond cc => exact ⟨_, exec_retCond s cc, meant_returnIf s cc⟩
  | reti => exact ⟨_, exec_reti s, meant_reti s rfl⟩
  | rst y => exact ⟨_, exec_rst s y, meant_call s _ _ _ (by decide)⟩
  | nop => exact ⟨_, exec_nop s, meant_jump s _ _ (by decide)⟩
  | halt => exact ⟨_, exec_halt s, meant_halt s rfl⟩
  | stop => exact ⟨_, exec_stop s, meant_fault s _⟩
  | di => exact ⟨_, exec_di s, meant_ime s _ (.inr rfl)⟩
  | ei => exact ⟨_, exec_ei s, meant_ime s _ (.inl rfl)⟩
  | pre op2 => exact ⟨_, exec_pre s op2, meant_prefixed s op2 (.prefixCb op2)⟩
  | unused u => exact ⟨_, exec_unused s u, meant_fault s _⟩

end Sys2Proof.Machine
end

