-- ==== Sys2Proof/Laws/Step.lean ====
section
/-! SUPPORT. The step: what the devices keep of the processor, and what a step can do, said once. -/

namespace Sys2Proof.Machine

/-! ## The devices keep the processor's private state -/

theorem lcdNextIn_kept (n : Nat) (s : State) : CpuKept s (lcdNextIn n s) :=
  ⟨rfl, rfl, rfl, rfl, rfl, rfl, rfl, rfl⟩

theorem resetFrame_kept (s : State) : CpuKept s (resetFrame s) :=
  ⟨rfl, rfl, rfl, rfl, rfl, rfl, rfl, rfl⟩

theorem publish_kept (s : State) : CpuKept s (publish s) :=
  ⟨rfl, rfl, rfl, rfl, rfl, rfl, rfl, rfl⟩

theorem composeCurrentLine_kept (s : State) : CpuKept s (composeCurrentLine s) :=
  ⟨rfl, rfl, rfl, rfl, rfl, rfl, rfl, rfl⟩

theorem enterMode2_kept (line : Byte) (s : State) : CpuKept s (enterMode2 line s) :=
  ((setLy_kept line s).trans (setMode_kept 2 _)).trans (lcdNextIn_kept _ _)

theorem enterMode3_kept (s : State) : CpuKept s (enterMode3 s) :=
  ((setMode_kept 3 s).trans (composeCurrentLine_kept _)).trans (lcdNextIn_kept _ _)

theorem enterMode0_kept (s : State) : CpuKept s (enterMode0 s) := (setMode_kept 0 s).trans (lcdNextIn_kept _ _)

theorem enterMode1_kept (s : State) : CpuKept s (enterMode1 s) :=
  ((((setLy_kept 144 s).trans (setMode_kept 1 _)).trans (publish_kept _)).trans (requestInterrupt_kept 0 _)).trans
    (lcdNextIn_kept _ _)

theorem modeTransition_kept (s : State) : CpuKept s (modeTransition s) := by
  unfold modeTransition
  dsimp only
  split
  · exact enterMode3_kept s
  · exact enterMode0_kept s
  · exact .ite (enterMode2_kept _ s) (.ite (enterMode1_kept s) (.refl s))
  · exact .ite ((setLy_kept _ s).trans (lcdNextIn_kept _ _))
      (.ite ((resetFrame_kept s).trans (enterMode2_kept 0 _)) (.refl s))

theorem modeStep_kept (s : State) : CpuKept s (modeStep s) := by
  unfold modeStep
  split
  · exact .ite ((resetFrame_kept s).trans (enterMode2_kept 0 _)) (.refl s)
  · exact .ite (modeTransition_kept s) (.refl s)

theorem dmaStep_kept (s : State) : CpuKept s (dmaStep s) := by
  unfold dmaStep
  exact .ite ⟨rfl, rfl, rfl, rfl, rfl, rfl, rfl, rfl⟩ (.refl s)

theorem lcdStep_kept (s : State) : CpuKept s (lcdStep s) := (modeStep_kept s).trans (dmaStep_kept _)

/-- The timer's and the display's steps leave the processor's private state. -/
theorem beforeCpu_kept (s : State) : CpuKept s (beforeCpu s) := (timerStep_kept s).trans (lcdStep_kept _)

/-! ## Fetch -/

theorem bytesFrom_congr {u t : State} (h : SameBus u t) (k a : Nat) : bytesFrom t k a = bytesFrom u k a := by
  induction k generalizing a with
  | zero => rfl
  | succ k ih => simp only [bytesFrom, ih, h.read]

theorem fetch_congr {u t : State} (h : SameBus u t) (hp : t.pc = u.pc) : fetch t = fetch u := by
  unfold fetch
  rw [hp, bytesFrom_congr h]

/-- What the decoder reads starts with the bytes on the bus. -/
theorem bytesFrom_prefix (u : State) (l : List Byte) (k a : Nat) (hk : l.length ≤ k)
    (h : ∀ j b, l[j]? = some b → a + j < 65536 ∧ busRead u (BitVec.ofNat 16 (a + j)) = b) :
    ∃ rest, bytesFrom u k a = l ++ rest := by
  induction l generalizing k a with
  | nil => exact ⟨_, rfl⟩
  | cons x l ih =>
    obtain ⟨k, rfl⟩ : ∃ m, k = m + 1 := ⟨k - 1, by simp at hk; omega⟩
    have h0 : a < 65536 ∧ busRead u (BitVec.ofNat 16 a) = x := h 0 x rfl
    obtain ⟨rest, hr⟩ := ih k (a + 1) (by simpa using hk) fun j b hj => by
      have := h (j + 1) b (by simpa using hj)
      rwa [show a + 1 + j = a + (j + 1) by omega]
    refine ⟨rest, ?_⟩
    rw [bytesFrom, if_pos (show a < Config.addressLimit from h0.1), h0.2, hr]
    rfl

/-! ## The processor's step -/

theorem wakeUp_sameBus (u : State) : SameBus u (wakeUp u) := by
  unfold wakeUp
  split <;> exact ⟨rfl, rfl, rfl, rfl, rfl, rfl, rfl⟩

theorem wakeUp_due {u : State} (h : u.cpuNext = some u.cycle) : wakeUp u = u := by
  unfold wakeUp wakes
  rw [h]
  rfl

theorem settle_fault {u t : State} {f : Fault} (h : t.fault = some f) : settle u t = raiseFault f u := by
  unfold settle
  rw [h]

theorem settle_ok {u t : State} (h : t.fault = none) : settle u t = t := by
  unfold settle
  rw [h]

/-- A step of a machine without a fault is the processor's step after the devices'. -/
theorem step_eq {s : State} (h : s.fault = none) : step s = countResult (cpuStep (beforeCpu s)) := by
  unfold step tick
  rw [h]
  rfl

theorem step_faulted {s : State} (h : s.fault ≠ none) : step s = .next s := by
  unfold step tick
  rw [if_pos (Option.isSome_iff_ne_none.mpr h)]

theorem countCycle_ok {t : State} (h : t.fault = none) : countCycle t = { t with cycle := t.cycle + 1 } := by
  unfold countCycle
  rw [h]
  rfl

theorem countCycle_fault {t : State} {f : Fault} (h : t.fault = some f) : countCycle t = t := by
  unfold countCycle
  rw [h]
  rfl

/-- What dispatch does when it does not fault. -/
structure Dispatched (i : Fin 5) (u t : State) : Prop where
  ime      : t.ime = false
  pc       : t.pc = handlerAddress i
  sp       : t.sp = u.sp - 2
  regs     : t.regs = u.regs
  cpuNext  : t.cpuNext = some (u.cycle + 5)
  cycle    : t.cycle = u.cycle
  fault    : t.fault = u.fault
  haltWake : t.haltWake = u.haltWake
  store    : StoredWord { u with iflag := u.iflag &&& ~~~(BitVec.ofNat 8 (2 ^ i.val)) } t (u.sp - 2) u.pc

theorem dispatch_faults {i : Fin 5} {u : State} (h : u.sp = 0x0001) : dispatch i u = raiseFault addressFault u :=
  if_pos (pushFaults_true h)

theorem dispatch_done {i : Fin 5} {u : State} (h : u.sp ≠ 0x0001) : Dispatched i u (dispatch i u) := by
  unfold dispatch
  rw [if_neg (by simp [pushFaults_false h])]
  have p := push_frame u.pc { u with ime := false, iflag := u.iflag &&& ~~~(BitVec.ofNat 8 (2 ^ i.val)) }
    (handlerAddress i) Config.dispatchCycles h
  exact ⟨p.2.ime, rfl, p.1, p.2.regs, p.2.ends.cpuNext, p.2.ends.cycle, p.2.ends.fault, p.2.ends.haltWake,
    p.2.store.of_from ⟨rfl, rfl, rfl, rfl, rfl, rfl, rfl⟩⟩

/-- What the processor's step can do. -/
inductive CpuStepped (u : State) : State → Prop where
  /-- Not due, and not woken. -/
  | idle (h : (wakeUp u).cpuNext ≠ some u.cycle) : CpuStepped u u
  /-- A fault, and nothing else. -/
  | faulted (f : Fault) : CpuStepped u (raiseFault f u)
  /-- An interrupt taken. -/
  | dispatched (i : Fin 5) (t : State) (h : Dispatched i (wakeUp u) t) : CpuStepped u t
  /-- An instruction executed. -/
  | ran (i : Instr) (t : State) (h : Ran i (wakeUp u) t) : CpuStepped u t

theorem wakeUp_fault (u : State) : (wakeUp u).fault = u.fault := by unfold wakeUp; split <;> rfl

theorem pending_le (p : Byte) (h : p &&& 0x1F ≠ 0) : lowestPending (p &&& 0x1F) ≠ none := by
  revert p
  decide

/-- The processor's step, from a state without a fault, in one of the four ways. -/
theorem cpuStep_stepped {u : State} (hf : u.fault = none) : ∃ t, cpuStep u = .next t ∧ CpuStepped u t := by
  have hw : (wakeUp u).fault = none := (wakeUp_fault u).trans hf
  unfold cpuStep
  by_cases hd : (wakeUp u).cpuNext = some u.cycle
  swap
  · rw [if_neg hd]
    exact ⟨u, rfl, .idle hd⟩
  rw [if_pos hd]
  split
  · unfold dispatchLowest
    split
    · rename_i i _
      by_cases h : (wakeUp u).sp = 0x0001
      · rw [dispatch_faults h]
        exact ⟨_, congrArg Host.Outcome.next (settle_fault rfl), .faulted _⟩
      · have k := dispatch_done (i := i) h
        exact ⟨_, congrArg Host.Outcome.next (settle_ok (k.fault.trans hw)), .dispatched i _ k⟩
    · rename_i hn _ ht
      have e : pending (wakeUp u) = pending u := by
        unfold pending
        rw [(wakeUp_sameBus u).ie, (wakeUp_sameBus u).iflag]
      rw [e] at ht
      unfold takesInterrupt at hn
      exact absurd ht (pending_le (u.ie &&& u.iflag) (by
        intro z
        rw [show pending u = 0 from z] at hn
        exact absurd hn (by simp)))
  · unfold executeInstruction
    split
    · rename_i i rest _
      obtain ⟨t, he, hr⟩ := exec_ran i (wakeUp u)
      rw [he]
      rcases hr with ⟨f, rfl⟩ | hr
      · exact ⟨_, congrArg Host.Outcome.next (settle_fault rfl), .faulted f⟩
      · exact ⟨_, congrArg Host.Outcome.next (settle_ok (hr.fault.trans hw)), .ran i t hr⟩
    · exact ⟨_, congrArg Host.Outcome.next (settle_fault rfl), .faulted _⟩
    · exact ⟨_, congrArg Host.Outcome.next (settle_fault rfl), .faulted _⟩

/-- A step, from a state without a fault: the processor's, with the cycle counted unless it faulted. -/
theorem step_stepped {s : State} (hf : s.fault = none) :
    ∃ t, CpuStepped (beforeCpu s) t ∧ step s = .next (countCycle t) := by
  obtain ⟨t, h, k⟩ := cpuStep_stepped (u := beforeCpu s) ((beforeCpu_kept s).fault.trans hf)
  exact ⟨t, k, by rw [step_eq hf, h]; rfl⟩

/-- The cycle is counted unless the step raised a fault (R510, R540). -/
theorem step_cycle {s t : State} (hf : s.fault = none) (h : step s = .next t) :
    (t.fault = none ∧ t.cycle = s.cycle + 1) ∨ (t.fault ≠ none ∧ t.cycle = s.cycle) := by
  obtain ⟨u, k, e⟩ := step_stepped hf
  rw [e] at h
  cases h
  have hb := beforeCpu_kept s
  have hc : (wakeUp (beforeCpu s)).cycle = s.cycle := by unfold wakeUp; split <;> exact hb.cycle
  have hw : (wakeUp (beforeCpu s)).fault = none := (wakeUp_fault _).trans (hb.fault.trans hf)
  have done : u.fault = none → u.cycle = s.cycle →
      ((countCycle u).fault = none ∧ (countCycle u).cycle = s.cycle + 1) := fun x y => by
    rw [countCycle_ok x]
    exact ⟨x, congrArg (· + 1) y⟩
  cases k with
  | idle _ => exact .inl (done (hb.fault.trans hf) hb.cycle)
  | faulted f =>
    rw [countCycle_fault (f := f) rfl]
    exact .inr ⟨Option.some_ne_none f, hb.cycle⟩
  | dispatched i _ d => exact .inl (done (d.fault.trans hw) (d.cycle.trans hc))
  | ran i _ r => exact .inl (done (r.fault.trans hw) (r.cycle.trans hc))

/-- A step always answers a next state. -/
theorem step_next (s : State) : ∃ t, step s = .next t := by
  by_cases hf : s.fault = none
  · obtain ⟨t, _, e⟩ := step_stepped hf
    exact ⟨_, e⟩
  · exact ⟨s, step_faulted hf⟩

end Sys2Proof.Machine
end

