-- ==== Sys2Proof/Laws/Display.lean ====
section
/-! SUPPORT. The display controller's step as a function of its own registers, and what it keeps of the rest. -/

namespace Sys2Proof.Machine

/-! ## The mode machine on the registers alone -/

/-- `EnterMode2(L, c)` on the registers (R621). -/
def Lcd.enteredMode2 (d : Lcd) (line : Byte) (c : Nat) : Lcd :=
  { (({ d with ly := line } : Lcd).compared.withMode 2) with next := some (c + 20) }

/-- The frame state reset (R613, R626). -/
def Lcd.frameReset (d : Lcd) : Lcd := { d with winY := 0, lineBuf := [] }

/-- The six transitions and the unreachable pairs, on the registers; `row` is the row composed (R601). -/
def Lcd.moved (d : Lcd) (c : Nat) (row : Row) : Lcd :=
  match d.mode.toNat with
  | 2 => { d.withMode 3 with
      next := some (c + 43), lineBuf := d.lineBuf ++ [row],
      winY := if windowActive d d.ly.toNat then d.winY + 1 else d.winY }
  | 3 => { d.withMode 0 with next := some (c + 51) }
  | 0 =>
    if d.ly.toNat < 143 then d.enteredMode2 (d.ly + 1) c
    else if d.ly.toNat = 143 then
      { (({ d with ly := 144 } : Lcd).compared.withMode 1) with image := d.lineBuf, next := some (c + 114) }
    else d
  | _ =>
    if d.ly.toNat < 153 then { ({ d with ly := d.ly + 1 } : Lcd).compared with next := some (c + 114) }
    else if d.ly.toNat = 153 then d.frameReset.enteredMode2 0 c
    else d

/-- The row composed on entry to MODE_3 (R622). -/
def composedRow (s : State) : Row := composeLine (setMode 3 s) s.lcd.ly.toNat

theorem enterMode2_acted (line : Byte) (s : State) :
    LcdActed s (enterMode2 line s) (s.lcd.enteredMode2 line s.cycle) := by
  have h := setLy_acted line s
  have k := setMode_acted 2 (setLy line s)
  have c : (setMode 2 (setLy line s)).cycle = s.cycle := ((setLy_kept line s).trans (setMode_kept 2 _)).cycle
  refine ⟨k.mem.trans h.mem, k.ie.trans h.ie, k.timer.trans h.timer, k.ext.trans h.ext, k.joypad.trans h.joypad, ?_⟩
  unfold enterMode2 lcdNextIn
  dsimp only
  rw [k.lcd, h.lcd, c]
  rfl

theorem enterMode3_acted (s : State) :
    LcdActed s (enterMode3 s) { s.lcd.withMode 3 with
      next := some (s.cycle + 43), lineBuf := s.lcd.lineBuf ++ [composedRow s],
      winY := if windowActive s.lcd s.lcd.ly.toNat then s.lcd.winY + 1 else s.lcd.winY } := by
  have k := setMode_acted 3 s
  have c : (setMode 3 s).cycle = s.cycle := (setMode_kept 3 s).cycle
  refine ⟨k.mem, k.ie, k.timer, k.ext, k.joypad, ?_⟩
  unfold enterMode3 lcdNextIn composeCurrentLine composedRow
  dsimp only
  rw [k.lcd, c]
  rfl

theorem enterMode0_acted (s : State) :
    LcdActed s (enterMode0 s) { s.lcd.withMode 0 with next := some (s.cycle + 51) } := by
  have k := setMode_acted 0 s
  have c : (setMode 0 s).cycle = s.cycle := (setMode_kept 0 s).cycle
  refine ⟨k.mem, k.ie, k.timer, k.ext, k.joypad, ?_⟩
  unfold enterMode0 lcdNextIn
  dsimp only
  rw [k.lcd, c]
  rfl

theorem LcdActed.published {s u : State} {d : Lcd} (h : LcdActed s u d) (n : Nat) :
    LcdActed s (lcdNextIn n (requestInterrupt 0 (publish u)))
      { d with image := d.lineBuf, next := some (u.cycle + n) } := by
  refine ⟨h.mem, h.ie, h.timer, h.ext, h.joypad, ?_⟩
  unfold lcdNextIn
  dsimp only [requestInterrupt_lcd, requestInterrupt_cycle, publish]
  rw [h.lcd]

theorem enterMode1_acted (s : State) :
    LcdActed s (enterMode1 s) { (({ s.lcd with ly := 144 } : Lcd).compared.withMode 1) with
      image := s.lcd.lineBuf, next := some (s.cycle + 114) } := by
  have h := setLy_acted 144 s
  have k := setMode_acted 1 (setLy 144 s)
  rw [h.lcd] at k
  have c : (setMode 1 (setLy 144 s)).cycle = s.cycle := ((setLy_kept 144 s).trans (setMode_kept 1 _)).cycle
  have p := LcdActed.published ⟨k.mem.trans h.mem, k.ie.trans h.ie, k.timer.trans h.timer, k.ext.trans h.ext,
    k.joypad.trans h.joypad, k.lcd⟩
    Config.lineCycles
  rw [c] at p
  exact p

theorem nextLine_acted (s : State) :
    LcdActed s (lcdNextIn Config.lineCycles (setLy (s.lcd.ly + 1) s))
      { ({ s.lcd with ly := s.lcd.ly + 1 } : Lcd).compared with next := some (s.cycle + 114) } := by
  have h := setLy_acted (s.lcd.ly + 1) s
  have c : (setLy (s.lcd.ly + 1) s).cycle = s.cycle := (setLy_kept _ s).cycle
  refine ⟨h.mem, h.ie, h.timer, h.ext, h.joypad, ?_⟩
  unfold lcdNextIn
  dsimp only
  rw [h.lcd, c]
  rfl

theorem newFrame_acted (s : State) :
    LcdActed s (enterMode2 0 (resetFrame s)) (s.lcd.frameReset.enteredMode2 0 s.cycle) := by
  have h := enterMode2_acted 0 (resetFrame s)
  exact ⟨h.mem, h.ie, h.timer, h.ext, h.joypad, h.lcd⟩

theorem LcdActed.refl (s : State) : LcdActed s s s.lcd := ⟨rfl, rfl, rfl, rfl, rfl, rfl⟩

theorem LcdActed.ite {s t u : State} {d e : Lcd} {p : Prop} [Decidable p] (h : p → LcdActed s t d)
    (k : ¬p → LcdActed s u e) : LcdActed s (if p then t else u) (if p then d else e) := by
  split
  · exact h ‹_›
  · exact k ‹_›

/-- A mode is one of the four. -/
theorem mode_cases (m : BitVec 2) : m = 0 ∨ m = 1 ∨ m = 2 ∨ m = 3 := by revert m; decide

theorem modeTransition_acted (s : State) :
    LcdActed s (modeTransition s) (s.lcd.moved s.cycle (composedRow s)) := by
  unfold modeTransition Lcd.moved
  obtain h | h | h | h := mode_cases s.lcd.mode <;> rw [h]
  · exact .ite (fun _ => enterMode2_acted _ s) fun _ => .ite (fun _ => enterMode1_acted s) fun _ => .refl s
  · exact .ite (fun _ => nextLine_acted s) fun _ => .ite (fun _ => newFrame_acted s) fun _ => .refl s
  · exact enterMode3_acted s
  · exact enterMode0_acted s

/-- The mode machine's step on the registers (R601). -/
def Lcd.stepped (d : Lcd) (c : Nat) (row : Row) : Lcd :=
  match d.next with
  | none => if d.lcdc.getLsbD 7 then d.frameReset.enteredMode2 0 c else d
  | some n => if n = c then d.moved c row else d

/-- The mode machine writes only the display's registers, and IF. -/
theorem modeStep_acted (s : State) : LcdActed s (modeStep s) (s.lcd.stepped s.cycle (composedRow s)) := by
  unfold modeStep Lcd.stepped
  cases s.lcd.next with
  | none => exact .ite (fun _ => newFrame_acted s) fun _ => .refl s
  | some n => exact .ite (fun _ => modeTransition_acted s) fun _ => .refl s

/-! ## Modes, the coincidence bit and the requests -/

/-- The mode written is the mode read back. -/
theorem Lcd.withMode_mode (d : Lcd) (m : BitVec 2) : (d.withMode m).mode = m := by
  unfold Lcd.withMode Lcd.mode
  dsimp only
  ext i hi
  have : i = 0 ∨ i = 1 := by omega
  rcases this with rfl | rfl <;> simp

/-- The coincidence bit is no mode bit. -/
theorem Lcd.compared_mode (d : Lcd) : d.compared.mode = d.mode := by
  unfold Lcd.compared Lcd.mode
  dsimp only
  generalize d.stat = x
  split <;> (revert x; decide)

theorem setMode_iflag (m : BitVec 2) (s : State) :
    (setMode m s).iflag = s.iflag ||| (if s.lcd.modeRequests m then 0x02 else 0) := by
  unfold setMode
  dsimp only
  split
  · rfl
  · simp

theorem setLy_iflag (n : Byte) (s : State) : (setLy n s).iflag
    = s.iflag ||| (if n = s.lcd.lyc ∧ s.lcd.stat.getLsbD 6 = true then 0x02 else 0) := by
  unfold setLy coincidence
  dsimp only
  by_cases h : n = s.lcd.lyc
  · simp only [h, if_true, true_and]
    split
    · rfl
    · simp
  · simp [h]

theorem composeLine_length (s : State) (line : Nat) : (composeLine s line).length = 160 := by
  simp [composeLine, Config.lcdWidth]

/-- A later display state with these four fields as before is in the same phase, and a phase ahead of a cycle
is ahead of every earlier one. -/
theorem DisplayPhase.of {d e : Lcd} {c c' : Nat} (h : DisplayPhase d c) (next : e.next = d.next)
    (mode : e.mode = d.mode) (ly : e.ly = d.ly) (rows : e.lineBuf = d.lineBuf) (hc : c' ≤ c) :
    DisplayPhase e c' := by
  cases h with
  | off i m l => exact .off (next ▸ i) (mode ▸ m) (ly ▸ l)
  | scan n i a m l r => exact .scan n (next ▸ i) (by omega) (mode ▸ m) (ly ▸ l) (by rw [rows, ly]; exact r)
  | transfer n i a m l r => exact .transfer n (next ▸ i) (by omega) (mode ▸ m) (ly ▸ l) (by rw [rows, ly]; exact r)
  | hblank n i a m l r => exact .hblank n (next ▸ i) (by omega) (mode ▸ m) (ly ▸ l) (by rw [rows, ly]; exact r)
  | vblank n i a m l k r => exact .vblank n (next ▸ i) (by omega) (mode ▸ m) (ly ▸ l) (ly ▸ k) (rows ▸ r)

/-! ## The order of sprites -/

theorem insertSprite_perm (s : State) (k : Nat) (l : List Nat) : (insertSprite s k l).Perm (k :: l) := by
  induction l with
  | nil => exact List.Perm.refl _
  | cons j l ih =>
    unfold insertSprite
    split
    · exact List.Perm.refl _
    · exact (ih.cons j).trans (List.Perm.swap k j l)

/-- Sorting moves sprites and loses none. -/
theorem sortSprites_perm (s : State) (l : List Nat) : (sortSprites s l).Perm l := by
  induction l with
  | nil => exact List.Perm.refl _
  | cons j l ih => exact (insertSprite_perm s j _).trans (ih.cons j)

/-! ## The quick-copy and the whole step -/

/-- The index after `DmaStep()` (R660). -/
def dmaNext (k : Nat) : Nat := if k < Config.dmaLength then k + 1 else k

theorem dmaStep_lcd (s : State) : (dmaStep s).lcd = { s.lcd with dmaIdx := dmaNext s.lcd.dmaIdx } := by
  unfold dmaStep dmaNext
  split <;> rfl

theorem dmaStep_mem (s : State) : (dmaStep s).mem = s.mem ∨ ∃ k v, (dmaStep s).mem = s.mem.write k v := by
  unfold dmaStep
  split
  · exact .inr ⟨_, _, rfl⟩
  · exact .inl rfl

@[simp] theorem dmaStep_timer (s : State) : (dmaStep s).timer = s.timer := by unfold dmaStep; split <;> rfl
@[simp] theorem dmaStep_ie (s : State) : (dmaStep s).ie = s.ie := by unfold dmaStep; split <;> rfl
@[simp] theorem dmaStep_iflag (s : State) : (dmaStep s).iflag = s.iflag := by unfold dmaStep; split <;> rfl
@[simp] theorem dmaStep_joypad (s : State) : (dmaStep s).joypad = s.joypad := by unfold dmaStep; split <;> rfl
@[simp] theorem dmaStep_ext (s : State) : (dmaStep s).ext = s.ext := by unfold dmaStep; split <;> rfl

/-- The display's registers after its step. -/
theorem lcdStep_lcd (s : State) :
    (lcdStep s).lcd = { s.lcd.stepped s.cycle (composedRow s) with
      dmaIdx := dmaNext (s.lcd.stepped s.cycle (composedRow s)).dmaIdx } := by
  unfold lcdStep
  rw [dmaStep_lcd, (modeStep_acted s).lcd]

theorem lcdStep_timer (s : State) : (lcdStep s).timer = s.timer := by
  unfold lcdStep
  rw [dmaStep_timer, (modeStep_acted s).timer]

theorem lcdStep_ie (s : State) : (lcdStep s).ie = s.ie := by
  unfold lcdStep
  rw [dmaStep_ie, (modeStep_acted s).ie]

theorem lcdStep_ext (s : State) : (lcdStep s).ext = s.ext := by
  unfold lcdStep
  rw [dmaStep_ext, (modeStep_acted s).ext]

theorem lcdStep_joypad (s : State) : (lcdStep s).joypad = s.joypad := by
  unfold lcdStep
  rw [dmaStep_joypad, (modeStep_acted s).joypad]

/-- The display controller's step changes memory, IF and its own registers, and nothing else. -/
theorem lcdStep_rest (s : State) :
    lcdStep s = { s with mem := (lcdStep s).mem, iflag := (lcdStep s).iflag, lcd := (lcdStep s).lcd } := by
  have k := lcdStep_kept s
  have e := lcdStep_ie s
  have x := lcdStep_ext s
  have j := lcdStep_joypad s
  have t := lcdStep_timer s
  obtain ⟨regs, pc, sp, ime, next, cycle, fault, wake⟩ := k
  generalize lcdStep s = u at *
  cases u
  simp_all

theorem lcdStep_mem (s : State) : (lcdStep s).mem = s.mem ∨ ∃ k v, (lcdStep s).mem = s.mem.write k v := by
  have h := dmaStep_mem (modeStep s)
  rwa [(modeStep_acted s).mem] at h

theorem lcdStep_iflag (s : State) : (lcdStep s).iflag = (modeStep s).iflag := dmaStep_iflag _

theorem timerStep_lcd (s : State) : (timerStep s).lcd = s.lcd := timerEdge_lcd _ s
theorem timerStep_mem (s : State) : (timerStep s).mem = s.mem := timerEdge_mem _ s
theorem timerStep_tDiv (s : State) : (timerStep s).timer.tDiv = s.timer.tDiv + Config.timerStep := timerEdge_tDiv _ s

theorem beforeCpu_tDiv (s : State) : (beforeCpu s).timer.tDiv = s.timer.tDiv + 4 := by
  unfold beforeCpu
  rw [lcdStep_timer, timerStep_tDiv]
  rfl

theorem beforeCpu_ext (s : State) : (beforeCpu s).ext = s.ext := (lcdStep_ext _).trans (timerEdge_ext _ s)

theorem beforeCpu_joypad (s : State) : (beforeCpu s).joypad = s.joypad :=
  (lcdStep_joypad _).trans (timerEdge_joypad _ s)

theorem beforeCpu_mem (s : State) : (beforeCpu s).mem = s.mem ∨ ∃ k v, (beforeCpu s).mem = s.mem.write k v := by
  have h := lcdStep_mem (timerStep s)
  rwa [timerStep_mem] at h

/-! ## What the mode machine keeps -/

theorem Lcd.moved_dma (d : Lcd) (c : Nat) (row : Row) :
    (d.moved c row).dmaSrc = d.dmaSrc ∧ (d.moved c row).dmaIdx = d.dmaIdx := by
  unfold Lcd.moved
  repeat' split
  all_goals exact ⟨rfl, rfl⟩

theorem Lcd.stepped_dma (d : Lcd) (c : Nat) (row : Row) :
    (d.stepped c row).dmaSrc = d.dmaSrc ∧ (d.stepped c row).dmaIdx = d.dmaIdx := by
  unfold Lcd.stepped
  split
  · split <;> exact ⟨rfl, rfl⟩
  · split
    · exact Lcd.moved_dma d c row
    · exact ⟨rfl, rfl⟩

/-! ## An invariant of the devices alone is kept by every step that keeps it -/

/-- What holds after the devices' steps, and is kept by a bus write and by dispatch's write to IF, holds after
the step; it does not see the processor's private state. -/
theorem step_reaches {J : State → Prop} (write : ∀ a v s, J s → J (busWrite a v s))
    (iflag : ∀ v s, J s → J { s with iflag := v }) (see : ∀ s t, SameBus s t → J s → J t)
    {s t : State} (hf : s.fault = none) (h : J (beforeCpu s)) (hs : step s = .next t) : J t := by
  obtain ⟨t', k, he⟩ := step_stepped hf
  rw [he] at hs
  cases hs
  have hc : SameBus t' (countCycle t') := by
    unfold countCycle
    split <;> exact ⟨rfl, rfl, rfl, rfl, rfl, rfl, rfl⟩
  refine see _ _ hc ?_
  have hu : J (wakeUp (beforeCpu s)) := see _ _ (wakeUp_sameBus _) h
  cases k with
  | idle _ => exact h
  | faulted f => exact see (beforeCpu s) _ ⟨rfl, rfl, rfl, rfl, rfl, rfl, rfl⟩ h
  | dispatched i _ d => exact see _ _ d.store.bus (write _ _ _ (write _ _ _ (iflag _ _ hu)))
  | ran i _ r =>
    rcases r.bus with b | ⟨a, v, b⟩ | ⟨a, v, a', v', b⟩
    · exact see _ _ b hu
    · exact see _ _ b (write _ _ _ hu)
    · exact see _ _ b (write _ _ _ (write _ _ _ hu))

/-- To show that a step keeps an invariant of the devices: the devices' steps keep it, and so does a store. -/
theorem step_keeps {I : State → Prop} (dev : ∀ s, I s → I (beforeCpu s)) (write : ∀ a v s, I s → I (busWrite a v s))
    (iflag : ∀ v s, I s → I { s with iflag := v }) (see : ∀ s t, SameBus s t → I s → I t)
    {s t : State} (h : I s) (hs : step s = .next t) : I t := by
  by_cases hf : s.fault = none
  · exact step_reaches write iflag see hf (dev s h) hs
  · rw [step_faulted hf] at hs
    cases hs
    exact h

end Sys2Proof.Machine
end

