-- ==== Sys2Proof/Tests/Slice0.lean ====
section
/-! SUPPORT. Tests: words written out from the grids of R175 and R176, vectors of 95_test_vectors.md, and for
each obligation with hypotheses a state that meets them. -/

namespace Sys2Proof.Tests

open Sys2Proof Sys2Proof.Machine

/-! ## Well-formed terms -/

/-- The one check: the row `PREFIX CB` by itself is no instruction (R495). -/
theorem test_wellFormed_refuses_bare_row : (Instr.prefixCb 0x37).wellFormed = false := by decide

theorem test_wellFormed_accepts : Instr.swapA.wellFormed = true ∧ (Instr.ldBcN16 0xFFFF).wellFormed = true := by decide

/-! ## Decoding -/

/-- The instruction the decoder reads first. -/
def first (bytes : List Byte) : Option Instr :=
  match decode bytes with
  | .ok i _ => some i
  | .error _ => none

/-- The sixteen opcodes from `op` on. -/
def lows (op : Byte) : List Byte := (List.range 16).map (fun k => op + BitVec.ofNat 8 k)

/-- Row 0x of R175, read with the bytes 34 12 behind the opcode. -/
theorem test_decode_row_0 : (lows 0x00).map (fun op => first [op, 0x34, 0x12]) =
    [some .nop, some (.ldBcN16 0x1234), some .ldAtBcA, some .incBc,
      some .incB, some .decB, some (.ldBN8 0x34), some .rlca,
      some (.ldAtA16Sp 0x1234), some .addHlBc, some .ldAAtBc, some .decBc,
      some .incC, some .decC, some (.ldCN8 0x34), some .rrca] := by decide

/-- Row 1x of R175, read with the bytes 34 12 behind the opcode. -/
theorem test_decode_row_1 : (lows 0x10).map (fun op => first [op, 0x34, 0x12]) =
    [some .stop, some (.ldDeN16 0x1234), some .ldAtDeA, some .incDe,
      some .incD, some .decD, some (.ldDN8 0x34), some .rla,
      some (.jrE8 0x34), some .addHlDe, some .ldAAtDe, some .decDe,
      some .incE, some .decE, some (.ldEN8 0x34), some .rra] := by decide

/-- Row 2x of R175, read with the bytes 34 12 behind the opcode. -/
theorem test_decode_row_2 : (lows 0x20).map (fun op => first [op, 0x34, 0x12]) =
    [some (.jrNzE8 0x34), some (.ldHlN16 0x1234), some .ldAtHlIncA, some .incHl,
      some .incH, some .decH, some (.ldHN8 0x34), some .daa,
      some (.jrZE8 0x34), some .addHlHl, some .ldAAtHlInc, some .decHl,
      some .incL, some .decL, some (.ldLN8 0x34), some .cpl] := by decide

/-- Row 3x of R175, read with the bytes 34 12 behind the opcode. -/
theorem test_decode_row_3 : (lows 0x30).map (fun op => first [op, 0x34, 0x12]) =
    [some (.jrNcE8 0x34), some (.ldSpN16 0x1234), some .ldAtHlDecA, some .incSp,
      some .incAtHl, some .decAtHl, some (.ldAtHlN8 0x34), some .scf,
      some (.jrCE8 0x34), some .addHlSp, some .ldAAtHlDec, some .decSp,
      some .incA, some .decA, some (.ldAN8 0x34), some .ccf] := by decide

/-- Row 4x of R175, read with the bytes 34 12 behind the opcode. -/
theorem test_decode_row_4 : (lows 0x40).map (fun op => first [op, 0x34, 0x12]) =
    [some .ldBB, some .ldBC, some .ldBD, some .ldBE,
      some .ldBH, some .ldBL, some .ldBAtHl, some .ldBA,
      some .ldCB, some .ldCC, some .ldCD, some .ldCE,
      some .ldCH, some .ldCL, some .ldCAtHl, some .ldCA] := by decide

/-- Row 5x of R175, read with the bytes 34 12 behind the opcode. -/
theorem test_decode_row_5 : (lows 0x50).map (fun op => first [op, 0x34, 0x12]) =
    [some .ldDB, some .ldDC, some .ldDD, some .ldDE,
      some .ldDH, some .ldDL, some .ldDAtHl, some .ldDA,
      some .ldEB, some .ldEC, some .ldED, some .ldEE,
      some .ldEH, some .ldEL, some .ldEAtHl, some .ldEA] := by decide

/-- Row 6x of R175, read with the bytes 34 12 behind the opcode. -/
theorem test_decode_row_6 : (lows 0x60).map (fun op => first [op, 0x34, 0x12]) =
    [some .ldHB, some .ldHC, some .ldHD, some .ldHE,
      some .ldHH, some .ldHL, some .ldHAtHl, some .ldHA,
      some .ldLB, some .ldLC, some .ldLD, some .ldLE,
      some .ldLH, some .ldLL, some .ldLAtHl, some .ldLA] := by decide

/-- Row 7x of R175, read with the bytes 34 12 behind the opcode. -/
theorem test_decode_row_7 : (lows 0x70).map (fun op => first [op, 0x34, 0x12]) =
    [some .ldAtHlB, some .ldAtHlC, some .ldAtHlD, some .ldAtHlE,
      some .ldAtHlH, some .ldAtHlL, some .halt, some .ldAtHlA,
      some .ldAB, some .ldAC, some .ldAD, some .ldAE,
      some .ldAH, some .ldAL, some .ldAAtHl, some .ldAA] := by decide

/-- Row 8x of R175, read with the bytes 34 12 behind the opcode. -/
theorem test_decode_row_8 : (lows 0x80).map (fun op => first [op, 0x34, 0x12]) =
    [some .addAB, some .addAC, some .addAD, some .addAE,
      some .addAH, some .addAL, some .addAAtHl, some .addAA,
      some .adcAB, some .adcAC, some .adcAD, some .adcAE,
      some .adcAH, some .adcAL, some .adcAAtHl, some .adcAA] := by decide

/-- Row 9x of R175, read with the bytes 34 12 behind the opcode. -/
theorem test_decode_row_9 : (lows 0x90).map (fun op => first [op, 0x34, 0x12]) =
    [some .subB, some .subC, some .subD, some .subE,
      some .subH, some .subL, some .subAtHl, some .subA,
      some .sbcAB, some .sbcAC, some .sbcAD, some .sbcAE,
      some .sbcAH, some .sbcAL, some .sbcAAtHl, some .sbcAA] := by decide

/-- Row Ax of R175, read with the bytes 34 12 behind the opcode. -/
theorem test_decode_row_A : (lows 0xA0).map (fun op => first [op, 0x34, 0x12]) =
    [some .andB, some .andC, some .andD, some .andE,
      some .andH, some .andL, some .andAtHl, some .andA,
      some .xorB, some .xorC, some .xorD, some .xorE,
      some .xorH, some .xorL, some .xorAtHl, some .xorA] := by decide

/-- Row Bx of R175, read with the bytes 34 12 behind the opcode. -/
theorem test_decode_row_B : (lows 0xB0).map (fun op => first [op, 0x34, 0x12]) =
    [some .orB, some .orC, some .orD, some .orE,
      some .orH, some .orL, some .orAtHl, some .orA,
      some .cpB, some .cpC, some .cpD, some .cpE,
      some .cpH, some .cpL, some .cpAtHl, some .cpA] := by decide

/-- Row Cx of R175, read with the bytes 34 12 behind the opcode. -/
theorem test_decode_row_C : (lows 0xC0).map (fun op => first [op, 0x34, 0x12]) =
    [some .retNz, some .popBc, some (.jpNzA16 0x1234), some (.jpA16 0x1234),
      some (.callNzA16 0x1234), some .pushBc, some (.addAN8 0x34), some .rst00,
      some .retZ, some .ret, some (.jpZA16 0x1234), some .swapH,
      some (.callZA16 0x1234), some (.callA16 0x1234), some (.adcAN8 0x34), some .rst08] := by decide

/-- Row Dx of R175, read with the bytes 34 12 behind the opcode. -/
theorem test_decode_row_D : (lows 0xD0).map (fun op => first [op, 0x34, 0x12]) =
    [some .retNc, some .popDe, some (.jpNcA16 0x1234), some .unusedD3,
      some (.callNcA16 0x1234), some .pushDe, some (.subN8 0x34), some .rst10,
      some .retC, some .reti, some (.jpCA16 0x1234), some .unusedDB,
      some (.callCA16 0x1234), some .unusedDD, some (.sbcAN8 0x34), some .rst18] := by decide

/-- Row Ex of R175, read with the bytes 34 12 behind the opcode. -/
theorem test_decode_row_E : (lows 0xE0).map (fun op => first [op, 0x34, 0x12]) =
    [some (.ldhAtA8A 0x34), some .popHl, some .ldhAtCA, some .unusedE3,
      some .unusedE4, some .pushHl, some (.andN8 0x34), some .rst20,
      some (.addSpE8 0x34), some .jpHl, some (.ldAtA16A 0x1234), some .unusedEB,
      some .unusedEC, some .unusedED, some (.xorN8 0x34), some .rst28] := by decide

/-- Row Fx of R175, read with the bytes 34 12 behind the opcode. -/
theorem test_decode_row_F : (lows 0xF0).map (fun op => first [op, 0x34, 0x12]) =
    [some (.ldhAAtA8 0x34), some .popAf, some .ldhAAtC, some .di,
      some .unusedF4, some .pushAf, some (.orN8 0x34), some .rst30,
      some (.ldHlSpE8 0x34), some .ldSpHl, some (.ldAAtA16 0x1234), some .ei,
      some .unusedFC, some .unusedFD, some (.cpN8 0x34), some .rst38] := by decide

/-- Rows 00 and 08 of R176. -/
theorem test_decode_cb_00 : (lows 0x00).map (fun op2 => first [0xCB, op2]) =
    [some .rlcB, some .rlcC, some .rlcD, some .rlcE, some .rlcH, some .rlcL, some .rlcAtHl, some .rlcA,
      some .rrcB, some .rrcC, some .rrcD, some .rrcE, some .rrcH, some .rrcL, some .rrcAtHl, some .rrcA] := by decide

/-- Rows 10 and 18 of R176. -/
theorem test_decode_cb_10 : (lows 0x10).map (fun op2 => first [0xCB, op2]) =
    [some .rlB, some .rlC, some .rlD, some .rlE, some .rlH, some .rlL, some .rlAtHl, some .rlA,
      some .rrB, some .rrC, some .rrD, some .rrE, some .rrH, some .rrL, some .rrAtHl, some .rrA] := by decide

/-- Rows 20 and 28 of R176. -/
theorem test_decode_cb_20 : (lows 0x20).map (fun op2 => first [0xCB, op2]) =
    [some .slaB, some .slaC, some .slaD, some .slaE, some .slaH, some .slaL, some .slaAtHl, some .slaA,
      some .sraB, some .sraC, some .sraD, some .sraE, some .sraH, some .sraL, some .sraAtHl, some .sraA] := by decide

/-- Rows 30 and 38 of R176. -/
theorem test_decode_cb_30 : (lows 0x30).map (fun op2 => first [0xCB, op2]) =
    [some .swapB, some .swapC, some .swapD, some .swapE, some .swapH, some .swapL, some .swapAtHl, some .swapA,
      some .srlB, some .srlC, some .srlD, some .srlE, some .srlH, some .srlL, some .srlAtHl, some .srlA] := by decide

/-- Row 40 + 8b + z of R176 for b = 0 and 1. -/
theorem test_decode_cb_40 : (lows 0x40).map (fun op2 => first [0xCB, op2]) =
    [some .bit0B, some .bit0C, some .bit0D, some .bit0E, some .bit0H, some .bit0L, some .bit0AtHl, some .bit0A,
      some .bit1B, some .bit1C, some .bit1D, some .bit1E, some .bit1H, some .bit1L, some .bit1AtHl, some .bit1A] := by decide

/-- Row 40 + 8b + z of R176 for b = 2 and 3. -/
theorem test_decode_cb_50 : (lows 0x50).map (fun op2 => first [0xCB, op2]) =
    [some .bit2B, some .bit2C, some .bit2D, some .bit2E, some .bit2H, some .bit2L, some .bit2AtHl, some .bit2A,
      some .bit3B, some .bit3C, some .bit3D, some .bit3E, some .bit3H, some .bit3L, some .bit3AtHl, some .bit3A] := by decide

/-- Row 40 + 8b + z of R176 for b = 4 and 5. -/
theorem test_decode_cb_60 : (lows 0x60).map (fun op2 => first [0xCB, op2]) =
    [some .bit4B, some .bit4C, some .bit4D, some .bit4E, some .bit4H, some .bit4L, some .bit4AtHl, some .bit4A,
      some .bit5B, some .bit5C, some .bit5D, some .bit5E, some .bit5H, some .bit5L, some .bit5AtHl, some .bit5A] := by decide

/-- Row 40 + 8b + z of R176 for b = 6 and 7. -/
theorem test_decode_cb_70 : (lows 0x70).map (fun op2 => first [0xCB, op2]) =
    [some .bit6B, some .bit6C, some .bit6D, some .bit6E, some .bit6H, some .bit6L, some .bit6AtHl, some .bit6A,
      some .bit7B, some .bit7C, some .bit7D, some .bit7E, some .bit7H, some .bit7L, some .bit7AtHl, some .bit7A] := by decide

/-- Row 80 + 8b + z of R176 for b = 0 and 1. -/
theorem test_decode_cb_80 : (lows 0x80).map (fun op2 => first [0xCB, op2]) =
    [some .res0B, some .res0C, some .res0D, some .res0E, some .res0H, some .res0L, some .res0AtHl, some .res0A,
      some .res1B, some .res1C, some .res1D, some .res1E, some .res1H, some .res1L, some .res1AtHl, some .res1A] := by decide

/-- Row 80 + 8b + z of R176 for b = 2 and 3. -/
theorem test_decode_cb_90 : (lows 0x90).map (fun op2 => first [0xCB, op2]) =
    [some .res2B, some .res2C, some .res2D, some .res2E, some .res2H, some .res2L, some .res2AtHl, some .res2A,
      some .res3B, some .res3C, some .res3D, some .res3E, some .res3H, some .res3L, some .res3AtHl, some .res3A] := by decide

/-- Row 80 + 8b + z of R176 for b = 4 and 5. -/
theorem test_decode_cb_A0 : (lows 0xA0).map (fun op2 => first [0xCB, op2]) =
    [some .res4B, some .res4C, some .res4D, some .res4E, some .res4H, some .res4L, some .res4AtHl, some .res4A,
      some .res5B, some .res5C, some .res5D, some .res5E, some .res5H, some .res5L, some .res5AtHl, some .res5A] := by decide

/-- Row 80 + 8b + z of R176 for b = 6 and 7. -/
theorem test_decode_cb_B0 : (lows 0xB0).map (fun op2 => first [0xCB, op2]) =
    [some .res6B, some .res6C, some .res6D, some .res6E, some .res6H, some .res6L, some .res6AtHl, some .res6A,
      some .res7B, some .res7C, some .res7D, some .res7E, some .res7H, some .res7L, some .res7AtHl, some .res7A] := by decide

/-- Row C0 + 8b + z of R176 for b = 0 and 1. -/
theorem test_decode_cb_C0 : (lows 0xC0).map (fun op2 => first [0xCB, op2]) =
    [some .set0B, some .set0C, some .set0D, some .set0E, some .set0H, some .set0L, some .set0AtHl, some .set0A,
      some .set1B, some .set1C, some .set1D, some .set1E, some .set1H, some .set1L, some .set1AtHl, some .set1A] := by decide

/-- Row C0 + 8b + z of R176 for b = 2 and 3. -/
theorem test_decode_cb_D0 : (lows 0xD0).map (fun op2 => first [0xCB, op2]) =
    [some .set2B, some .set2C, some .set2D, some .set2E, some .set2H, some .set2L, some .set2AtHl, some .set2A,
      some .set3B, some .set3C, some .set3D, some .set3E, some .set3H, some .set3L, some .set3AtHl, some .set3A] := by decide

/-- Row C0 + 8b + z of R176 for b = 4 and 5. -/
theorem test_decode_cb_E0 : (lows 0xE0).map (fun op2 => first [0xCB, op2]) =
    [some .set4B, some .set4C, some .set4D, some .set4E, some .set4H, some .set4L, some .set4AtHl, some .set4A,
      some .set5B, some .set5C, some .set5D, some .set5E, some .set5H, some .set5L, some .set5AtHl, some .set5A] := by decide

/-- Row C0 + 8b + z of R176 for b = 6 and 7. -/
theorem test_decode_cb_F0 : (lows 0xF0).map (fun op2 => first [0xCB, op2]) =
    [some .set6B, some .set6C, some .set6D, some .set6E, some .set6H, some .set6L, some .set6AtHl, some .set6A,
      some .set7B, some .set7C, some .set7D, some .set7E, some .set7H, some .set7L, some .set7AtHl, some .set7A] := by decide

theorem test_decode_missing_operand : decode [0x01, 0x34] = .error (.missingOperand 2)
    ∧ decode [0xCB] = .error (.missingOperand 1) ∧ decode [] = .error .noOpcode := by decide

/-- Operand bytes are left behind in order (R166). -/
theorem test_decode_leaves_rest : decode [0x06, 0x9C, 0x41] = .ok (.ldBN8 0x9C) [0x41] := by decide

/-- The table's numbering: an operand word without bits reads as 0; a row of 16 bits is `CB op2` (R184). -/
theorem test_decodeTableWord : decodeTableWord 8 0x01 = some (.ldBcN16 0) ∧ decodeTableWord 16 0xCB37 = some .swapA
    ∧ decodeTableWord 8 0xCB = some .rlcB ∧ decodeTableWord 8 0xD3 = some .unusedD3 := by decide

/-! ## One step -/

/-- The reset state with PC and the bytes there (95_test_vectors.md section 0). -/
def start (pc : Word) (bytes : List Byte) : State := pokeBytes bytes pc.toNat { State.reset with pc := pc }

/-- The state after one step. -/
def after (s : State) : State :=
  match step s with
  | .next t => t
  | _ => State.reset

/-- The first instruction after reset is the one stored where the machine fetches. -/
theorem test_withFetchWord : (after (State.reset.withFetchWord 8 0x3C)).regs.a = 0x01
    ∧ (after (State.reset.withFetchWord 16 0xCB37)).pc = 0x0002 := by decide

/-! ### Vectors of 95_test_vectors.md section 3.1 -/

theorem test_ldBC :
    let t := after { start 0x0100 [0x41] with regs := { Regs.reset with c := 0x5A } };
    t.regs.b = 0x5A ∧ t.pc = 0x0101 ∧ t.cpuNext = some 1 := by decide

theorem test_ldBN8 :
    let t := after (start 0x0100 [0x06, 0x9C]);
    t.regs.b = 0x9C ∧ t.pc = 0x0102 ∧ t.cpuNext = some 2 := by decide

theorem test_ldBAtHl :
    let t := after (pokeByte 0xC010 0x77 { start 0x0100 [0x46] with regs := { Regs.reset with h := 0xC0, l := 0x10 } });
    t.regs.b = 0x77 ∧ t.pc = 0x0101 ∧ t.cpuNext = some 2 := by decide

theorem test_ldAtHlB :
    let t := after { start 0x0100 [0x70] with regs := { Regs.reset with b := 0x3C, h := 0xC0, l := 0x20 } };
    t.pc = 0x0101 ∧ busRead t 0xC020 = 0x3C ∧ t.cpuNext = some 2 := by decide

theorem test_ldAtHlN8 :
    let t := after { start 0x0100 [0x36, 0xAB] with regs := { Regs.reset with h := 0xFF, l := 0x80 } };
    t.pc = 0x0102 ∧ busRead t 0xFF80 = 0xAB ∧ t.cpuNext = some 3 := by decide

theorem test_ldAAtBc :
    let t := after (pokeByte 0xC001 0x99 { start 0x0100 [0x0A] with regs := { Regs.reset with b := 0xC0, c := 0x01 } });
    t.regs.a = 0x99 ∧ t.pc = 0x0101 ∧ t.cpuNext = some 2 := by decide

theorem test_ldAAtDe :
    let t := after { start 0x0100 [0x1A] with regs := { Regs.reset with a := 0x55, d := 0x90, e := 0x00 } };
    t.regs.a = 0x00 ∧ t.pc = 0x0101 ∧ t.cpuNext = some 2 := by decide

theorem test_ldAtBcA :
    let t := after { start 0x0100 [0x02] with regs := { Regs.reset with a := 0x42, b := 0xE0, c := 0x00 } };
    t.pc = 0x0101 ∧ busRead t 0xE000 = 0x42 ∧ t.cpuNext = some 2 := by decide

theorem test_ldAtDeA :
    let t := after { start 0x0100 [0x12] with regs := { Regs.reset with a := 0x42, d := 0x00, e := 0x05 } };
    t.pc = 0x0101 ∧ busRead t 0x0005 = 0x42 ∧ t.cpuNext = some 2 := by decide

theorem test_ldAAtA16 :
    let t := after (pokeByte 0xC234 0x5E (start 0x0100 [0xFA, 0x34, 0xC2]));
    t.regs.a = 0x5E ∧ t.pc = 0x0103 ∧ t.cpuNext = some 4 := by decide

theorem test_ldAtA16A :
    let t := after { start 0x0100 [0xEA, 0x00, 0xFE] with regs := { Regs.reset with a := 0x10 } };
    t.pc = 0x0103 ∧ busRead t 0xFE00 = 0x10 ∧ t.cpuNext = some 4 := by decide

theorem test_ldhAAtC :
    let t := after (pokeByte 0xFF80 0x21 { start 0x0100 [0xF2] with regs := { Regs.reset with c := 0x80 } });
    t.regs.a = 0x21 ∧ t.pc = 0x0101 ∧ t.cpuNext = some 2 := by decide

theorem test_ldhAtCA :
    let t := after { start 0x0100 [0xE2] with regs := { Regs.reset with a := 0x04, c := 0xFF } };
    t.pc = 0x0101 ∧ t.ie = 0x04 ∧ busRead t 0xFFFF = 0x04 ∧ t.cpuNext = some 2 := by decide

theorem test_ldhAAtA8 :
    let t := after { start 0x0100 [0xF0, 0x0F] with iflag := 0xE1 };
    t.regs.a = 0xE1 ∧ t.pc = 0x0102 ∧ t.cpuNext = some 3 := by decide

theorem test_ldhAtA8A :
    let t := after { start 0x0100 [0xE0, 0x07] with regs := { Regs.reset with a := 0xFD } };
    t.pc = 0x0102 ∧ busRead t 0xFF07 = 0xFD ∧ t.cpuNext = some 3 := by decide

theorem test_ldAAtHlInc :
    let t := after { start 0x0100 [0x2A] with regs := { Regs.reset with h := 0xFF, l := 0xFF }, ie := 0x1F };
    t.regs.h = 0x00 ∧ t.regs.l = 0x00 ∧ t.regs.a = 0x1F ∧ t.pc = 0x0101 ∧ t.cpuNext = some 2 := by decide

theorem test_ldAAtHlDec :
    let t := after { start 0x0100 [0x3A] with regs := { Regs.reset with h := 0x00, l := 0x00 } };
    t.regs.h = 0xFF ∧ t.regs.l = 0xFF ∧ t.pc = 0x0101 ∧ t.cpuNext = some 2 := by decide

theorem test_ldAtHlIncA :
    let t := after { start 0x0100 [0x22] with regs := { Regs.reset with a := 0x01, h := 0xDF, l := 0xFF } };
    t.regs.h = 0xE0 ∧ t.regs.l = 0x00 ∧ t.pc = 0x0101 ∧ busRead t 0xDFFF = 0x01 ∧ t.cpuNext = some 2 := by decide

theorem test_ldAtHlDecA :
    let t := after { start 0x0100 [0x32] with regs := { Regs.reset with a := 0x02, h := 0xC0, l := 0x00 } };
    t.regs.h = 0xBF ∧ t.regs.l = 0xFF ∧ t.pc = 0x0101 ∧ busRead t 0xC000 = 0x02 ∧ t.cpuNext = some 2 := by decide

theorem test_ldAN8_fault :
    let t := after { start 0xFFFF [0x3E, 0x01] with ie := 0x3E };
    t.fault = some (.addressRange 0x10000) ∧ t.cycle = 0 := by decide


/-! ### Vectors of 95_test_vectors.md section 3.2 -/

theorem test_ldBcN16 :
    let t := after (start 0x0100 [0x01, 0x34, 0x12]);
    t.regs.b = 0x12 ∧ t.regs.c = 0x34 ∧ t.pc = 0x0103 ∧ t.cpuNext = some 3 := by decide

theorem test_ldAtA16Sp :
    let t := after { start 0x0100 [0x08, 0x00, 0xC0] with sp := 0xFFF8 };
    t.pc = 0x0103 ∧ busRead t 0xC000 = 0xF8 ∧ busRead t 0xC001 = 0xFF ∧ t.cpuNext = some 5 := by decide

theorem test_ldAtA16Sp_fault :
    let t := after { start 0x0100 [0x08, 0xFF, 0xFF] with sp := 0x1234 };
    t.fault = some (.addressRange 0x10000) ∧ t.cycle = 0 := by decide

theorem test_ldSpHl :
    let t := after { start 0x0100 [0xF9] with regs := { Regs.reset with h := 0xDF, l := 0xFF } };
    t.sp = 0xDFFF ∧ t.pc = 0x0101 ∧ t.cpuNext = some 2 := by decide

theorem test_ldHlSpE8 :
    let t := after { start 0x0100 [0xF8, 0x08] with regs := { Regs.reset with f := 0xF0 }, sp := 0xFFF8 };
    t.regs.h = 0x00 ∧ t.regs.l = 0x00 ∧ t.regs.f = 0x30 ∧ t.pc = 0x0102 ∧ t.cpuNext = some 3 := by decide

theorem test_pushBc :
    let t := after { start 0x0100 [0xC5] with regs := { Regs.reset with b := 0x12, c := 0x34 }, sp := 0xFFFE };
    t.sp = 0xFFFC ∧ t.pc = 0x0101 ∧ busRead t 0xFFFC = 0x34 ∧ busRead t 0xFFFD = 0x12 ∧ t.cpuNext = some 4 := by decide

theorem test_pushBc_fault :
    let t := after { start 0x0100 [0xC5] with regs := { Regs.reset with b := 0xBE, c := 0xEF }, sp := 0x0001 };
    t.fault = some (.addressRange 0x10000) ∧ t.cycle = 0 := by decide

theorem test_popAf :
    let t := after (pokeByte 0xFFFD 0x12 (pokeByte 0xFFFC 0xFF { start 0x0100 [0xF1] with sp := 0xFFFC }));
    t.regs.f = 0xF0 ∧ t.regs.a = 0x12 ∧ t.sp = 0xFFFE ∧ t.pc = 0x0101 ∧ t.cpuNext = some 3 := by decide

theorem test_popBc_fault :
    let t := after { start 0x0100 [0xC1] with sp := 0xFFFF };
    t.fault = some (.addressRange 0x10000) ∧ t.cycle = 0 := by decide


/-! ### Vectors of 95_test_vectors.md section 3.3 -/

theorem test_addAB :
    let t := after { start 0x0100 [0x80] with regs := { Regs.reset with a := 0x3A, b := 0xC6 } };
    t.regs.f = 0xB0 ∧ t.regs.a = 0x00 ∧ t.pc = 0x0101 ∧ t.cpuNext = some 1 := by decide

theorem test_addAAtHl :
    let t := after (pokeByte 0xC000 0x01 { start 0x0100 [0x86] with regs := { Regs.reset with a := 0x0F, h := 0xC0, l := 0x00 } });
    t.regs.f = 0x20 ∧ t.regs.a = 0x10 ∧ t.pc = 0x0101 ∧ t.cpuNext = some 2 := by decide

theorem test_addAN8 :
    let t := after { start 0x0100 [0xC6, 0xFF] with regs := { Regs.reset with a := 0x01, f := 0xF0 } };
    t.regs.f = 0xB0 ∧ t.regs.a = 0x00 ∧ t.pc = 0x0102 ∧ t.cpuNext = some 2 := by decide

theorem test_adcAB :
    let t := after { start 0x0100 [0x88] with regs := { Regs.reset with a := 0xE1, b := 0x0F, f := 0x10 } };
    t.regs.f = 0x20 ∧ t.regs.a = 0xF1 ∧ t.pc = 0x0101 ∧ t.cpuNext = some 1 := by decide

theorem test_adcAN8 :
    let t := after { start 0x0100 [0xCE, 0x00] with regs := { Regs.reset with a := 0xFF, f := 0x10 } };
    t.regs.f = 0xB0 ∧ t.regs.a = 0x00 ∧ t.pc = 0x0102 ∧ t.cpuNext = some 2 := by decide

theorem test_subB :
    let t := after { start 0x0100 [0x90] with regs := { Regs.reset with a := 0x3E, b := 0x3E } };
    t.regs.f = 0xC0 ∧ t.regs.a = 0x00 ∧ t.pc = 0x0101 ∧ t.cpuNext = some 1 := by decide

theorem test_subN8 :
    let t := after { start 0x0100 [0xD6, 0x0F] with regs := { Regs.reset with a := 0x3E } };
    t.regs.f = 0x60 ∧ t.regs.a = 0x2F ∧ t.pc = 0x0102 ∧ t.cpuNext = some 2 := by decide

theorem test_subAtHl :
    let t := after (pokeByte 0xC000 0x40 { start 0x0100 [0x96] with regs := { Regs.reset with a := 0x3E, h := 0xC0, l := 0x00 } });
    t.regs.f = 0x50 ∧ t.regs.a = 0xFE ∧ t.pc = 0x0101 ∧ t.cpuNext = some 2 := by decide

theorem test_sbcAB :
    let t := after { start 0x0100 [0x98] with regs := { Regs.reset with a := 0x3B, b := 0x2A, f := 0x10 } };
    t.regs.f = 0x40 ∧ t.regs.a = 0x10 ∧ t.pc = 0x0101 ∧ t.cpuNext = some 1 := by decide

theorem test_sbcAN8 :
    let t := after { start 0x0100 [0xDE, 0x3A] with regs := { Regs.reset with a := 0x3B, f := 0x10 } };
    t.regs.f = 0xC0 ∧ t.regs.a = 0x00 ∧ t.pc = 0x0102 ∧ t.cpuNext = some 2 := by decide

theorem test_sbcAAtHl :
    let t := after (pokeByte 0xC000 0x4F { start 0x0100 [0x9E] with regs := { Regs.reset with a := 0x3B, f := 0x10, h := 0xC0, l := 0x00 } });
    t.regs.f = 0x70 ∧ t.regs.a = 0xEB ∧ t.pc = 0x0101 ∧ t.cpuNext = some 2 := by decide

theorem test_andB :
    let t := after { start 0x0100 [0xA0] with regs := { Regs.reset with a := 0x5A, b := 0x3F, f := 0xD0 } };
    t.regs.f = 0x20 ∧ t.regs.a = 0x1A ∧ t.pc = 0x0101 ∧ t.cpuNext = some 1 := by decide

theorem test_andN8 :
    let t := after { start 0x0100 [0xE6, 0x00] with regs := { Regs.reset with a := 0xFF } };
    t.regs.f = 0xA0 ∧ t.regs.a = 0x00 ∧ t.pc = 0x0102 ∧ t.cpuNext = some 2 := by decide

theorem test_xorB :
    let t := after { start 0x0100 [0xA8] with regs := { Regs.reset with a := 0xFF, b := 0x0F, f := 0xF0 } };
    t.regs.f = 0x00 ∧ t.regs.a = 0xF0 ∧ t.pc = 0x0101 ∧ t.cpuNext = some 1 := by decide

theorem test_orC :
    let t := after { start 0x0100 [0xB1] with regs := { Regs.reset with a := 0x5A, c := 0x0F } };
    t.regs.f = 0x00 ∧ t.regs.a = 0x5F ∧ t.pc = 0x0101 ∧ t.cpuNext = some 1 := by decide

theorem test_orN8 :
    let t := after { start 0x0100 [0xF6, 0x00] with regs := { Regs.reset with a := 0x00, f := 0x70 } };
    t.regs.f = 0x80 ∧ t.pc = 0x0102 ∧ t.cpuNext = some 2 := by decide

theorem test_cpB :
    let t := after { start 0x0100 [0xB8] with regs := { Regs.reset with a := 0x3C, b := 0x2F } };
    t.regs.f = 0x60 ∧ t.pc = 0x0101 ∧ t.cpuNext = some 1 := by decide

theorem test_cpN8 :
    let t := after { start 0x0100 [0xFE, 0x3C] with regs := { Regs.reset with a := 0x3C } };
    t.regs.f = 0xC0 ∧ t.pc = 0x0102 ∧ t.cpuNext = some 2 := by decide

theorem test_cpAtHl :
    let t := after (pokeByte 0xC000 0x40 { start 0x0100 [0xBE] with regs := { Regs.reset with a := 0x3C, h := 0xC0, l := 0x00 } });
    t.regs.f = 0x50 ∧ t.pc = 0x0101 ∧ t.cpuNext = some 2 := by decide

theorem test_incA :
    let t := after { start 0x0100 [0x3C] with regs := { Regs.reset with a := 0xFF, f := 0x10 } };
    t.regs.f = 0xB0 ∧ t.regs.a = 0x00 ∧ t.pc = 0x0101 ∧ t.cpuNext = some 1 := by decide

theorem test_incAtHl :
    let t := after (pokeByte 0xC000 0x50 { start 0x0100 [0x34] with regs := { Regs.reset with h := 0xC0, l := 0x00 } });
    t.regs.f = 0x00 ∧ t.pc = 0x0101 ∧ busRead t 0xC000 = 0x51 ∧ t.cpuNext = some 3 := by decide

theorem test_decA :
    let t := after { start 0x0100 [0x3D] with regs := { Regs.reset with a := 0x01, f := 0x10 } };
    t.regs.f = 0xD0 ∧ t.regs.a = 0x00 ∧ t.pc = 0x0101 ∧ t.cpuNext = some 1 := by decide

theorem test_decAtHl :
    let t := after (pokeByte 0xC000 0x10 { start 0x0100 [0x35] with regs := { Regs.reset with h := 0xC0, l := 0x00 } });
    t.regs.f = 0x60 ∧ t.pc = 0x0101 ∧ busRead t 0xC000 = 0x0F ∧ t.cpuNext = some 3 := by decide

theorem test_daa :
    let t := after { start 0x0100 [0x27] with regs := { Regs.reset with a := 0x7D, f := 0x00 } };
    t.regs.f = 0x00 ∧ t.regs.a = 0x83 ∧ t.pc = 0x0101 ∧ t.cpuNext = some 1 := by decide

theorem test_daa_2 :
    let t := after { start 0x0100 [0x27] with regs := { Regs.reset with a := 0x4B, f := 0x60 } };
    t.regs.f = 0x40 ∧ t.regs.a = 0x45 ∧ t.pc = 0x0101 ∧ t.cpuNext = some 1 := by decide

theorem test_cpl :
    let t := after { start 0x0100 [0x2F] with regs := { Regs.reset with a := 0x35, f := 0x90 } };
    t.regs.f = 0xF0 ∧ t.regs.a = 0xCA ∧ t.pc = 0x0101 ∧ t.cpuNext = some 1 := by decide

theorem test_scf :
    let t := after { start 0x0100 [0x37] with regs := { Regs.reset with f := 0xE0 } };
    t.regs.f = 0x90 ∧ t.pc = 0x0101 ∧ t.cpuNext = some 1 := by decide

theorem test_ccf :
    let t := after { start 0x0100 [0x3F] with regs := { Regs.reset with f := 0xF0 } };
    t.regs.f = 0x80 ∧ t.pc = 0x0101 ∧ t.cpuNext = some 1 := by decide


/-! ### Vectors of 95_test_vectors.md section 3.4 -/

theorem test_addHlBc :
    let t := after { start 0x0100 [0x09] with regs := { Regs.reset with h := 0x8A, l := 0x23, b := 0x06, c := 0x05, f := 0x80 } };
    t.regs.h = 0x90 ∧ t.regs.l = 0x28 ∧ t.regs.f = 0xA0 ∧ t.pc = 0x0101 ∧ t.cpuNext = some 2 := by decide

theorem test_incBc :
    let t := after { start 0x0100 [0x03] with regs := { Regs.reset with b := 0xFF, c := 0xFF, f := 0xF0 } };
    t.regs.b = 0x00 ∧ t.regs.c = 0x00 ∧ t.regs.f = 0xF0 ∧ t.pc = 0x0101 ∧ t.cpuNext = some 2 := by decide

theorem test_decBc :
    let t := after { start 0x0100 [0x0B] with regs := { Regs.reset with b := 0x00, c := 0x00 } };
    t.regs.b = 0xFF ∧ t.regs.c = 0xFF ∧ t.regs.f = 0x00 ∧ t.pc = 0x0101 ∧ t.cpuNext = some 2 := by decide

theorem test_addSpE8 :
    let t := after { start 0x0100 [0xE8, 0x02] with regs := { Regs.reset with f := 0xF0 }, sp := 0xFFF8 };
    t.regs.f = 0x00 ∧ t.sp = 0xFFFA ∧ t.pc = 0x0102 ∧ t.cpuNext = some 4 := by decide


/-! ### Vectors of 95_test_vectors.md section 3.5 -/

theorem test_rlca :
    let t := after { start 0x0100 [0x07] with regs := { Regs.reset with a := 0x85, f := 0xE0 } };
    t.regs.f = 0x10 ∧ t.regs.a = 0x0B ∧ t.pc = 0x0101 ∧ t.cpuNext = some 1 := by decide

theorem test_rrca :
    let t := after { start 0x0100 [0x0F] with regs := { Regs.reset with a := 0x3B } };
    t.regs.f = 0x10 ∧ t.regs.a = 0x9D ∧ t.pc = 0x0101 ∧ t.cpuNext = some 1 := by decide

theorem test_rla :
    let t := after { start 0x0100 [0x17] with regs := { Regs.reset with a := 0x95, f := 0x10 } };
    t.regs.f = 0x10 ∧ t.regs.a = 0x2B ∧ t.pc = 0x0101 ∧ t.cpuNext = some 1 := by decide

theorem test_rra :
    let t := after { start 0x0100 [0x1F] with regs := { Regs.reset with a := 0x81, f := 0x00 } };
    t.regs.f = 0x10 ∧ t.regs.a = 0x40 ∧ t.pc = 0x0101 ∧ t.cpuNext = some 1 := by decide

theorem test_rlcB :
    let t := after { start 0x0100 [0xCB, 0x00] with regs := { Regs.reset with b := 0x85 } };
    t.regs.b = 0x0B ∧ t.regs.f = 0x10 ∧ t.pc = 0x0102 ∧ t.cpuNext = some 2 := by decide

theorem test_rlcAtHl :
    let t := after (pokeByte 0xC000 0x00 { start 0x0100 [0xCB, 0x06] with regs := { Regs.reset with h := 0xC0, l := 0x00 } });
    t.regs.f = 0x80 ∧ t.pc = 0x0102 ∧ busRead t 0xC000 = 0x00 ∧ t.cpuNext = some 4 := by decide

theorem test_rrcC :
    let t := after { start 0x0100 [0xCB, 0x09] with regs := { Regs.reset with c := 0x01 } };
    t.regs.c = 0x80 ∧ t.regs.f = 0x10 ∧ t.pc = 0x0102 ∧ t.cpuNext = some 2 := by decide

theorem test_rrcAtHl :
    let t := after (pokeByte 0xC000 0x00 { start 0x0100 [0xCB, 0x0E] with regs := { Regs.reset with h := 0xC0, l := 0x00 } });
    t.regs.f = 0x80 ∧ t.pc = 0x0102 ∧ busRead t 0xC000 = 0x00 ∧ t.cpuNext = some 4 := by decide

theorem test_rlD :
    let t := after { start 0x0100 [0xCB, 0x12] with regs := { Regs.reset with d := 0x80 } };
    t.regs.d = 0x00 ∧ t.regs.f = 0x90 ∧ t.pc = 0x0102 ∧ t.cpuNext = some 2 := by decide

theorem test_rlAtHl :
    let t := after (pokeByte 0xC000 0x11 { start 0x0100 [0xCB, 0x16] with regs := { Regs.reset with h := 0xC0, l := 0x00, f := 0x10 } });
    t.regs.f = 0x00 ∧ t.pc = 0x0102 ∧ busRead t 0xC000 = 0x23 ∧ t.cpuNext = some 4 := by decide

theorem test_rrE :
    let t := after { start 0x0100 [0xCB, 0x1B] with regs := { Regs.reset with e := 0x01 } };
    t.regs.e = 0x00 ∧ t.regs.f = 0x90 ∧ t.pc = 0x0102 ∧ t.cpuNext = some 2 := by decide

theorem test_rrAtHl :
    let t := after (pokeByte 0xC000 0x8A { start 0x0100 [0xCB, 0x1E] with regs := { Regs.reset with h := 0xC0, l := 0x00, f := 0x10 } });
    t.regs.f = 0x00 ∧ t.pc = 0x0102 ∧ busRead t 0xC000 = 0xC5 ∧ t.cpuNext = some 4 := by decide

theorem test_slaH :
    let t := after { start 0x0100 [0xCB, 0x24] with regs := { Regs.reset with h := 0x80 } };
    t.regs.h = 0x00 ∧ t.regs.f = 0x90 ∧ t.pc = 0x0102 ∧ t.cpuNext = some 2 := by decide

theorem test_slaAtHl :
    let t := after (pokeByte 0xC000 0xFF { start 0x0100 [0xCB, 0x26] with regs := { Regs.reset with h := 0xC0, l := 0x00 } });
    t.regs.f = 0x10 ∧ t.pc = 0x0102 ∧ busRead t 0xC000 = 0xFE ∧ t.cpuNext = some 4 := by decide

theorem test_sraA :
    let t := after { start 0x0100 [0xCB, 0x2F] with regs := { Regs.reset with a := 0x8A } };
    t.regs.f = 0x00 ∧ t.regs.a = 0xC5 ∧ t.pc = 0x0102 ∧ t.cpuNext = some 2 := by decide

theorem test_sraAtHl :
    let t := after (pokeByte 0xC000 0x01 { start 0x0100 [0xCB, 0x2E] with regs := { Regs.reset with h := 0xC0, l := 0x00 } });
    t.regs.f = 0x90 ∧ t.pc = 0x0102 ∧ busRead t 0xC000 = 0x00 ∧ t.cpuNext = some 4 := by decide

theorem test_swapA :
    let t := after { start 0x0100 [0xCB, 0x37] with regs := { Regs.reset with a := 0xF1, f := 0xF0 } };
    t.regs.f = 0x00 ∧ t.regs.a = 0x1F ∧ t.pc = 0x0102 ∧ t.cpuNext = some 2 := by decide

theorem test_swapAtHl :
    let t := after (pokeByte 0xC000 0xA5 { start 0x0100 [0xCB, 0x36] with regs := { Regs.reset with h := 0xC0, l := 0x00 } });
    t.regs.f = 0x00 ∧ t.pc = 0x0102 ∧ busRead t 0xC000 = 0x5A ∧ t.cpuNext = some 4 := by decide

theorem test_srlA :
    let t := after { start 0x0100 [0xCB, 0x3F] with regs := { Regs.reset with a := 0x01 } };
    t.regs.f = 0x90 ∧ t.regs.a = 0x00 ∧ t.pc = 0x0102 ∧ t.cpuNext = some 2 := by decide

theorem test_srlAtHl :
    let t := after (pokeByte 0xC000 0xFF { start 0x0100 [0xCB, 0x3E] with regs := { Regs.reset with h := 0xC0, l := 0x00 } });
    t.regs.f = 0x10 ∧ t.pc = 0x0102 ∧ busRead t 0xC000 = 0x7F ∧ t.cpuNext = some 4 := by decide

theorem test_bit7A :
    let t := after { start 0x0100 [0xCB, 0x7F] with regs := { Regs.reset with a := 0x80, f := 0x10 } };
    t.regs.f = 0x30 ∧ t.pc = 0x0102 ∧ t.cpuNext = some 2 := by decide

theorem test_bit7AtHl :
    let t := after (pokeByte 0xC000 0x7F { start 0x0100 [0xCB, 0x7E] with regs := { Regs.reset with h := 0xC0, l := 0x00, f := 0x10 } });
    t.regs.f = 0xB0 ∧ t.pc = 0x0102 ∧ t.cpuNext = some 3 := by decide

theorem test_res0A :
    let t := after { start 0x0100 [0xCB, 0x87] with regs := { Regs.reset with a := 0xFF } };
    t.regs.f = 0x00 ∧ t.regs.a = 0xFE ∧ t.pc = 0x0102 ∧ t.cpuNext = some 2 := by decide

theorem test_res7AtHl :
    let t := after (pokeByte 0xC000 0x80 { start 0x0100 [0xCB, 0xBE] with regs := { Regs.reset with h := 0xC0, l := 0x00 } });
    t.regs.f = 0x00 ∧ t.pc = 0x0102 ∧ busRead t 0xC000 = 0x00 ∧ t.cpuNext = some 4 := by decide

theorem test_set7A :
    let t := after { start 0x0100 [0xCB, 0xFF] with regs := { Regs.reset with a := 0x00, f := 0xF0 } };
    t.regs.f = 0xF0 ∧ t.regs.a = 0x80 ∧ t.pc = 0x0102 ∧ t.cpuNext = some 2 := by decide

theorem test_set0AtHl :
    let t := after (pokeByte 0xC000 0x00 { start 0x0100 [0xCB, 0xC6] with regs := { Regs.reset with h := 0xC0, l := 0x00 } });
    t.regs.f = 0x00 ∧ t.pc = 0x0102 ∧ busRead t 0xC000 = 0x01 ∧ t.cpuNext = some 4 := by decide

theorem test_swapA_fault :
    let t := after { start 0xFFFF [0xCB, 0x37] with ie := 0xCB };
    t.fault = some (.addressRange 0x10000) ∧ t.cycle = 0 := by decide


/-! ### Vectors of 95_test_vectors.md section 3.6 -/

theorem test_jpA16 :
    let t := after (start 0x0100 [0xC3, 0x50, 0x01]);
    t.pc = 0x0150 ∧ t.cpuNext = some 4 := by decide

theorem test_jpNzA16 :
    let t := after { start 0x0100 [0xC2, 0x00, 0x80] with regs := { Regs.reset with f := 0x80 } };
    t.pc = 0x0103 ∧ t.cpuNext = some 3 := by decide

theorem test_jpHl :
    let t := after { start 0x0100 [0xE9] with regs := { Regs.reset with h := 0xC0, l := 0x00 } };
    t.pc = 0xC000 ∧ t.cpuNext = some 1 := by decide

theorem test_jrE8 :
    let t := after (start 0x0100 [0x18, 0x05]);
    t.pc = 0x0107 ∧ t.cpuNext = some 3 := by decide

theorem test_jrNzE8 :
    let t := after { start 0x0100 [0x20, 0xFA] with regs := { Regs.reset with f := 0x00 } };
    t.pc = 0x00FC ∧ t.cpuNext = some 3 := by decide

theorem test_jrZE8_fault :
    let t := after { start 0xFFFF [0x28, 0x02] with ie := 0x28 };
    t.fault = some (.addressRange 0x10000) ∧ t.cycle = 0 := by decide

theorem test_callA16 :
    let t := after { start 0x0100 [0xCD, 0x34, 0x12] with sp := 0xFFFE };
    t.sp = 0xFFFC ∧ t.pc = 0x1234 ∧ busRead t 0xFFFC = 0x03 ∧ busRead t 0xFFFD = 0x01 ∧ t.cpuNext = some 6 := by decide

theorem test_callA16_fault :
    let t := after { start 0x0100 [0xCD, 0x34, 0x12] with sp := 0x0001 };
    t.fault = some (.addressRange 0x10000) ∧ t.cycle = 0 := by decide

theorem test_callZA16 :
    let t := after { start 0x0100 [0xCC, 0x34, 0x12] with regs := { Regs.reset with f := 0x80 }, sp := 0xD000 };
    t.sp = 0xCFFE ∧ t.pc = 0x1234 ∧ busRead t 0xCFFE = 0x03 ∧ busRead t 0xCFFF = 0x01 ∧ t.cpuNext = some 6 := by decide

theorem test_ret :
    let t := after (pokeByte 0xCFFF 0x80 (pokeByte 0xCFFE 0x03 { start 0x0100 [0xC9] with sp := 0xCFFE }));
    t.sp = 0xD000 ∧ t.pc = 0x8003 ∧ t.cpuNext = some 4 := by decide

theorem test_ret_fault :
    let t := after { start 0x0100 [0xC9] with sp := 0xFFFF };
    t.fault = some (.addressRange 0x10000) ∧ t.cycle = 0 := by decide

theorem test_retNz :
    let t := after (pokeByte 0xCFFF 0x80 (pokeByte 0xCFFE 0x03 { start 0x0100 [0xC0] with regs := { Regs.reset with f := 0x00 }, sp := 0xCFFE }));
    t.sp = 0xD000 ∧ t.pc = 0x8003 ∧ t.cpuNext = some 5 := by decide

theorem test_reti :
    let t := after (pokeByte 0xCFFF 0x80 (pokeByte 0xCFFE 0x03 { start 0x0100 [0xD9] with sp := 0xCFFE }));
    t.sp = 0xD000 ∧ t.pc = 0x8003 ∧ t.ime = true ∧ t.cpuNext = some 4 := by decide

theorem test_rst38 :
    let t := after { start 0x0100 [0xFF] with sp := 0xD000 };
    t.sp = 0xCFFE ∧ t.pc = 0x0038 ∧ busRead t 0xCFFE = 0x01 ∧ busRead t 0xCFFF = 0x01 ∧ t.cpuNext = some 4 := by decide


/-! ### Vectors of 95_test_vectors.md section 3.7 -/

theorem test_nop :
    let t := after (start 0x0100 [0x00]);
    t.pc = 0x0101 ∧ t.cpuNext = some 1 := by decide

theorem test_halt :
    let t := after (start 0x0100 [0x76]);
    t.pc = 0x0101 ∧ t.cpuNext = none := by decide

theorem test_di :
    let t := after { start 0x0100 [0xF3] with ime := true };
    t.pc = 0x0101 ∧ t.ime = false ∧ t.cpuNext = some 1 := by decide

theorem test_ei :
    let t := after { start 0x0100 [0xFB] with ime := false };
    t.pc = 0x0101 ∧ t.ime = true ∧ t.cpuNext = some 1 := by decide

theorem test_stop_fault :
    let t := after (start 0x0100 [0x10, 0x00]);
    t.fault = some (.stopFault 0x100) ∧ t.cycle = 0 := by decide

theorem test_unusedD3_fault :
    let t := after (start 0x0100 [0xD3]);
    t.fault = some (.illegalOpcode 0x100 0xD3) ∧ t.cycle = 0 := by decide

/-! ### Interrupts, timer and display (95_test_vectors.md sections 2.3 to 2.6) -/

/-- Vector I1. -/
theorem test_dispatch :
    let t := after { State.reset with ime := true, ie := 0x04, iflag := 0x04, pc := 0x1234, sp := 0xD000 };
    t.ime = false ∧ t.iflag = 0 ∧ busRead t 0xCFFF = 0x12 ∧ busRead t 0xCFFE = 0x34 ∧ t.sp = 0xCFFE
      ∧ t.pc = 0x0050 ∧ t.cpuNext = some 5 := by decide

/-- Vector I8: IF's bit is cleared before the push, which writes IF. -/
theorem test_dispatch_pushes_over_if :
    let t := after { State.reset with ime := true, ie := 0x01, iflag := 0x01, pc := 0x12FF, sp := 0xFF11 };
    t.iflag = 0xFF ∧ t.sp = 0xFF0F := by decide

/-- Vectors I9 and I10b in the cycle of the wake-up. -/
theorem test_wake :
    let s := { start 0x0101 [0x04] with ie := 0x04, iflag := 0x04, sp := 0xD000, cycle := 10, cpuNext := none };
    (after s).regs.b = 0x01 ∧ (after s).cpuNext = some 11 ∧ (after { s with haltWake := true }).pc = 0x0050 := by decide

/-- Vectors T7, T8, T10. -/
theorem test_timer_writes :
    let t7 := { State.reset with timer := { tDiv := 0x0008, tima := 0x10, tma := 0, tac := 0x05 } };
    let t9 := { State.reset with timer := { tDiv := 0x0208, tima := 0xFF, tma := 0x33, tac := 0x05 } };
    (busWrite 0xFF04 0x99 t7).timer.tima = 0x11 ∧ (busWrite 0xFF07 0x01 t9).timer.tima = 0x33
      ∧ (busWrite 0xFF07 0x01 t9).iflag = 0x04 ∧ (busWrite 0xFF07 0x04 t9).timer.tima = 0xFF := by decide

/-- Vector D1 after its first cycle. -/
theorem test_power_on :
    let t := after { State.reset with lcd := { Lcd.reset with lcdc := 0x80 } };
    t.lcd.stat = 0x06 ∧ t.lcd.next = some 20 ∧ t.lcd.ly = 0 := by decide

/-- Vector D4, third line. -/
theorem test_power_off :
    let t := busWrite 0xFF40 0x00 { State.reset with lcd := { Lcd.reset with lcdc := 0x80, ly := 7, stat := 0x43, next := some 9 } };
    t.lcd.stat = 0x44 ∧ t.lcd.ly = 0 ∧ t.lcd.next = none ∧ t.iflag = 0x02 := by decide

/-- Tile T1's first row, at map entry 0 (vector V1). -/
def v1 : State :=
  { State.reset with
    mem := [(0x8010, 0x3C), (0x8011, 0x7E), (0x9800, 0x01)]
    lcd := { Lcd.reset with lcdc := 0x91, bgp := 0xE4 } }

theorem test_background : (List.range 10).map (fun x => (backgroundPixel v1 0 x).colour) = [0, 2, 3, 3, 3, 3, 2, 0, 0, 0] := by
  decide

/-- Vector V9: with the background off a behind sprite shows. -/
def v9 : State :=
  { State.reset with
    mem := [(0x8020, 0xF0), (0x8021, 0xCC), (0xFE00, 16), (0xFE01, 8), (0xFE02, 2), (0xFE03, 0x80)]
    lcd := { Lcd.reset with lcdc := 0x82, obp0 := 0xE4, bgp := 0xE4 } }

theorem test_sprite : spritesOn v9 0 = [0]
    ∧ (List.range 9).map (composePixel v9 [0] [] 0) = [3, 3, 1, 1, 2, 2, 0, 0, 0] := by decide

/-- The bus of section 2.1. -/
theorem test_bus :
    busRead (busWrite 0xE123 0x5A State.reset) 0xC123 = 0x5A ∧ busRead (busWrite 0xDE00 0x78 State.reset) 0xFE00 = 0
      ∧ busRead State.reset 0xA000 = 0xFF ∧ busRead (busWrite 0xFF41 0xFF State.reset) 0xFF41 = 0xF8
      ∧ busRead (busWrite 0xFF44 0x55 State.reset) 0xFF44 = 0 := by decide

/-! ## States that meet the hypotheses of the obligations -/

/-- A state about to execute `LD B,C` at 0x0100. -/
def running : State := start 0x0100 [0x41]

theorem witness_DecodeEncode : (Instr.ldBcN16 0x1234).wellFormed = true ∧ Instr.set7A.wellFormed = true := ⟨rfl, rfl⟩

theorem witness_EncodeDecode : decode [0x01, 0x34, 0x12, 0x99] = .ok (.ldBcN16 0x1234) [0x99] := rfl

theorem witness_StepRunsDecoded : running.fault = none ∧ Executes (beforeCpu running)
    ∧ decode (bytesFrom (beforeCpu running) 3 (beforeCpu running).pc.toNat) = .ok .ldBC [0x00, 0x00] :=
  ⟨rfl, ⟨rfl, by decide⟩, by decide⟩

/-- An opcode at the last address: it is IE's value. -/
def lastByte (op : Byte) : State := { State.reset with pc := 0xFFFF, ie := op }

theorem witness_StepRunsEncoded :
    (running.fault = none ∧ Executes (beforeCpu running) ∧ (Instr.ldBC).wellFormed = true
      ∧ ∀ k b, (encode .ldBC)[k]? = some b → (beforeCpu running).pc.toNat + k < 65536
        ∧ busRead (beforeCpu running) ((beforeCpu running).pc + BitVec.ofNat 16 k) = b)
    ∧ (lastByte 0x2F).fault = none ∧ Executes (beforeCpu (lastByte 0x2F)) ∧ (Instr.cpl).wellFormed = true
      ∧ ∀ k b, (encode .cpl)[k]? = some b → (beforeCpu (lastByte 0x2F)).pc.toNat + k < 65536
        ∧ busRead (beforeCpu (lastByte 0x2F)) ((beforeCpu (lastByte 0x2F)).pc + BitVec.ofNat 16 k) = b := by
  refine ⟨⟨rfl, ⟨rfl, by decide⟩, rfl, fun k b h => ?_⟩, rfl, ⟨rfl, by decide⟩, rfl, fun k b h => ?_⟩
  all_goals
    match k, h with
    | 0, h => cases h; decide

/-- Two operand bytes beyond the end, one beyond it (0xFFFE holds the opcode), and a prefix byte at 0xFFFF. -/
theorem witness_OperandFetchFaults :
    let s := { State.reset with pc := 0xFFFE, mem := [(0xFFFE, 0x01)] };
    (s.fault = none ∧ Executes (beforeCpu s)
      ∧ 65536 - opcodeLength (busRead (beforeCpu s) (beforeCpu s).pc) < (beforeCpu s).pc.toNat)
    ∧ ((lastByte 0xC3).fault = none ∧ Executes (beforeCpu (lastByte 0xC3))
      ∧ 65536 - opcodeLength (busRead (beforeCpu (lastByte 0xC3)) (beforeCpu (lastByte 0xC3)).pc)
        < (beforeCpu (lastByte 0xC3)).pc.toNat)
    ∧ (lastByte 0xCB).fault = none ∧ Executes (beforeCpu (lastByte 0xCB))
      ∧ 65536 - opcodeLength (busRead (beforeCpu (lastByte 0xCB)) (beforeCpu (lastByte 0xCB)).pc)
        < (beforeCpu (lastByte 0xCB)).pc.toNat :=
  ⟨⟨rfl, ⟨rfl, by decide⟩, by decide⟩, ⟨rfl, ⟨rfl, by decide⟩, by decide⟩, rfl, ⟨rfl, by decide⟩, by decide⟩

/-- Interrupts 0 and 4 pending alone, at the given SP. -/
def interrupted (bits : Byte) (sp : Word) : State := { State.reset with ime := true, ie := bits, iflag := bits, sp := sp }

theorem witness_InterruptDispatch_due :
    let s := interrupted 0x01 0xD000;
    let u := interrupted 0x10 0x0001;
    (s.fault = none ∧ ((beforeCpu s).ie &&& (beforeCpu s).iflag).getLsbD 0 = true
      ∧ (beforeCpu s).cpuNext = some (beforeCpu s).cycle ∧ (beforeCpu s).ime = true ∧ (beforeCpu s).sp ≠ 0x0001)
    ∧ u.fault = none ∧ ((beforeCpu u).ie &&& (beforeCpu u).iflag).getLsbD 4 = true
      ∧ (∀ j < 4, ((beforeCpu u).ie &&& (beforeCpu u).iflag).getLsbD j = false)
      ∧ (beforeCpu u).cpuNext = some (beforeCpu u).cycle ∧ (beforeCpu u).ime = true ∧ (beforeCpu u).sp = 0x0001 := by
  decide

theorem witness_InterruptDispatch_woken :
    let s := { interrupted 0x1F 0x0000 with cpuNext := none, ime := false, haltWake := true };
    s.fault = none ∧ ((beforeCpu s).ie &&& (beforeCpu s).iflag).getLsbD 0 = true ∧ (beforeCpu s).cpuNext = none
      ∧ (beforeCpu s).haltWake = true ∧ (beforeCpu s).sp ≠ 0x0001 := by
  decide

theorem witness_HaltAndWake :
    let asleep := { State.reset with cpuNext := none, ie := 0xE0, iflag := 0xFF };
    let busy := { State.reset with cpuNext := some 5 };
    let woken := { running with cpuNext := none, ie := 0x10, iflag := 0x10 };
    (asleep.fault = none ∧ (beforeCpu asleep).cpuNext = none
      ∧ (beforeCpu asleep).ie &&& (beforeCpu asleep).iflag &&& 0x1F = 0)
    ∧ (busy.fault = none ∧ (beforeCpu busy).cpuNext = some 5 ∧ 5 ≠ (beforeCpu busy).cycle)
    ∧ woken.fault = none ∧ (beforeCpu woken).cpuNext = none
      ∧ (beforeCpu woken).ie &&& (beforeCpu woken).iflag &&& 0x1F ≠ 0 ∧ (beforeCpu woken).ime = false
      ∧ (beforeCpu woken).haltWake = false
      ∧ decode (bytesFrom (beforeCpu woken) 3 (beforeCpu woken).pc.toNat) = .ok .ldBC [0x00, 0x00] := by
  decide

theorem witness_FaultLeavesState :
    let s := start 0x0100 [0x10];
    s.fault = none ∧ step s = .next (after s) ∧ (after s).fault = some (.stopFault 0x0100) := ⟨rfl, rfl, by decide⟩

theorem witness_OnlyThreeWriteIme : ∃ t, exec .ei State.reset = .next t ∧ t.ime ≠ State.reset.ime := ⟨_, rfl, by decide⟩

theorem witness_OnlyListedWriteFlags : ∃ t, exec .scf State.reset = .next t ∧ t.regs.f ≠ State.reset.regs.f :=
  ⟨_, rfl, by decide⟩

theorem witness_CostOneToSix :
    (∃ t, exec .nop State.reset = .next t ∧ State.reset.fault = none ∧ t.fault = none)
    ∧ ∃ t, exec .halt State.reset = .next t ∧ t.fault = none ∧ t.cpuNext = none :=
  ⟨⟨_, rfl, rfl, rfl⟩, _, rfl, rfl, rfl⟩

/-- The reset state meets every invariant, and it steps. -/
theorem witness_FlagsInvKept : FlagsInv State.reset ∧ ∃ t, step State.reset = .next t := ⟨rfl, step_next _⟩

theorem witness_MemoryInvKept : MemoryInv running ∧ ∃ t, step running = .next t :=
  ⟨⟨by decide, by decide⟩, step_next _⟩

theorem witness_CountersInvKept : TimerInv State.reset ∧ DmaInv State.reset ∧ CpuInv State.reset
    ∧ ∃ t, step State.reset = .next t :=
  ⟨rfl, ⟨rfl, Nat.le_refl _⟩, fun n h => by cases h; exact Nat.le_refl _, step_next _⟩

theorem blankImage_columns : ∀ r ∈ blankImage, r.length = 160 := fun r h => by
  rw [List.eq_of_mem_replicate (n := 144) h]
  rfl

theorem witness_DisplayInvKept : DisplayInv State.reset ∧ ∃ t, step State.reset = .next t :=
  ⟨⟨.off rfl rfl rfl, fun h => (by cases h), Nat.zero_le _, fun r h => (by cases h), Nat.le_refl _,
    List.length_replicate, blankImage_columns⟩, step_next _⟩

/-- The mode machine on and about to move, in each of its six pairs. -/
def showing (stat ly : Byte) (rows : List Row) : State :=
  { State.reset with lcd := { Lcd.reset with lcdc := 0x80, stat := stat, ly := ly, next := some 0, lineBuf := rows } }

theorem witness_DisplayInvKept_on : DisplayInv (showing 0x02 0 []) ∧ ∃ t, step (showing 0x02 0 []) = .next t :=
  ⟨⟨.scan 0 rfl (Nat.le_refl _) rfl (by decide) rfl, fun _ => rfl, Nat.zero_le _, fun r h => (by cases h), Nat.le_refl _,
    List.length_replicate, blankImage_columns⟩, step_next _⟩

theorem witness_ResetValues :
    (0xFF80 ≤ (0xFFFF : Word).toNat) ∧ (0x8000 ≤ (0x8000 : Word).toNat ∧ (0x9FFF : Word).toNat < 0xA000)
      ∧ (0xC000 ≤ (0xC000 : Word).toNat ∧ (0xFE9F : Word).toNat < 0xFEA0)
      ∧ 0xFF40 ≤ (0xFF40 : Word).toNat ∧ (0xFF4B : Word).toNat ≤ 0xFF4B := by decide

theorem witness_StoreStackPointer : (0xFFFE : Word) ≠ 0xFFFF ∧ (0xFFFF : Word) = 0xFFFF := by decide

/-- SP at the two ends of what each clause of a push and a pop takes. -/
theorem witness_PushPair : ({ State.reset with sp := 0x0000 } : State).sp ≠ 0x0001
    ∧ ({ State.reset with sp := 0x0001 } : State).sp = 0x0001
    ∧ ({ State.reset with sp := 0x0002 } : State).sp ≠ 0x0001 := by decide

theorem witness_PopPair : ({ State.reset with sp := 0xFFFE } : State).sp ≠ 0xFFFF
    ∧ ({ State.reset with sp := 0xFFFF } : State).sp = 0xFFFF ∧ StackPair.bc ≠ .af := by decide

theorem witness_DecimalAdjust :
    let fixes (f a : Byte) : Bool × Bool :=
      (decide (flagC f = true ∨ (flagN f = false ∧ a.toNat > 0x99)),
        decide (flagH f = true ∨ (flagN f = false ∧ a.toNat % 16 > 9)));
    fixes 0x00 0x9A = (true, true) ∧ fixes 0x00 0xA0 = (true, false) ∧ fixes 0x00 0x0A = (false, true)
      ∧ fixes 0x00 0x99 = (false, false) ∧ fixes 0x40 0x9A = (false, false) := by decide

/-- A taken and an untaken condition, with SP for the push and the pop. -/
theorem witness_Calls :
    let s := { State.reset with sp := 0xD000, regs := { Regs.reset with f := 0x80 } };
    s.sp ≠ 0x0001 ∧ condLaw .z s.regs.f = true ∧ condLaw .nz s.regs.f = false
      ∧ ({ s with sp := 0x0001 } : State).sp = 0x0001 := by decide

theorem witness_Returns :
    let s := { State.reset with sp := 0xD000, regs := { Regs.reset with f := 0x10 } };
    s.sp ≠ 0xFFFF ∧ condLaw .c s.regs.f = true ∧ condLaw .nc s.regs.f = false
      ∧ ({ s with sp := 0xFFFF } : State).sp = 0xFFFF := by decide

theorem witness_Jumps : condLaw .nz 0x00 = true ∧ condLaw .nz 0x80 = false := by decide

/-- A cartridge with RAM and a boot ROM in place of its first bytes. -/
def booting : State :=
  { State.reset with
    ext := .cartridge { bytes := [(0x0000, 0x11), (0x0100, 0x22)], bootMapped := true, boot := [(0x0000, 0x33)],
                        romWritable := false, ramPresent := true } }

/-- R112: the boot ROM covers 0x0000..0x00FF until 0xFF50 is written; ROM drops writes and the RAM window takes
them. -/
theorem test_ext_cartridge :
    busRead booting 0x0000 = 0x33 ∧ busRead booting 0x0100 = 0x22
      ∧ busRead (busWrite 0xFF50 0x01 booting) 0x0000 = 0x11
      ∧ busRead (busWrite 0x0100 0x44 booting) 0x0100 = 0x22
      ∧ busRead (busWrite 0xBFFF 0x44 booting) 0xBFFF = 0x44 := by decide

/-- R112: a given device is asked through its own functions, inside its window only. -/
theorem test_ext_given (st : Config.DeviceState) (v : Byte) :
    busRead { State.reset with ext := .given st } 0x4000 = (Config.extRead st 0x4000).getD 0xFF
      ∧ (busWrite 0x4000 v { State.reset with ext := .given st }).ext = .given (Config.extWrite st 0x4000 v)
      ∧ (busWrite 0x8000 v { State.reset with ext := .given st }).ext = .given st
      ∧ busRead { State.reset with joypad := .given st } 0xFF00 = (Config.joypadRead st 0xFF00).getD 0xFF
      ∧ (busWrite 0xFF00 v { State.reset with joypad := .given st }).joypad
        = .given (Config.joypadWrite st 0xFF00 v) :=
  ⟨busRead_ext _ (by decide), by rw [busWrite_ext _ _ (by decide)]; rfl,
    by rw [busWrite_video _ _ (by decide)], busRead_joypad _, by rw [busWrite_joypad]; rfl⟩

/-- The ends of the ranges of `readsBack`, and what a store does not reach. -/
theorem witness_StoresReadBack :
    readsBack State.reset 0x0000 ∧ readsBack State.reset 0x7FFF ∧ readsBack State.reset 0x8000
      ∧ readsBack State.reset 0x9FFF ∧ readsBack booting 0xA000 ∧ readsBack booting 0xBFFF
      ∧ readsBack State.reset 0xC000 ∧ readsBack State.reset 0xFE9F ∧ readsBack State.reset 0xFF0F
      ∧ readsBack State.reset 0xFF45 ∧ readsBack State.reset 0xFF4B ∧ readsBack State.reset 0xFF80
      ∧ readsBack State.reset 0xFFFF := by
  refine ⟨?_, ?_, ?_, ?_, ?_, ?_, ?_, ?_, ?_, ?_, ?_, ?_, ?_⟩
  all_goals first | exact .inl ⟨_, rfl, by decide⟩ | exact .inr (by decide)

theorem witness_StoresReadBack_elsewhere :
    ¬storeReaches State.reset 0xC000 0xC001 ∧ ¬storeReaches State.reset 0xDDFF 0xFDFE
      ∧ ¬storeReaches State.reset 0xDE00 0xFE00 ∧ ¬storeReaches State.reset 0xFF04 0xFF06
      ∧ ¬storeReaches State.reset 0xFF50 0x0000 ∧ ¬storeReaches booting 0xFF50 0x0100
      ∧ ¬storeReaches { State.reset with ext := .given [1] } 0x7FFF 0x8000
      ∧ ¬storeReaches { State.reset with ext := .given [1] } 0x8000 0x7FFF := by
  refine ⟨?_, ?_, ?_, ?_, ?_, ?_, ?_, ?_⟩ <;>
    simp [storeReaches, Ext.reaches, inExtWindow, inRange, State.reset, Ext.testRam, booting]

theorem witness_EchoAndUnmapped : (0 < 7680 ∧ 7679 < 7680)
    ∧ (∀ a ∈ ([0x0000, 0x7FFF] : List Word), a.toNat < 0x8000)
    ∧ (∀ a ∈ ([0xFEA0, 0xFEFF] : List Word), 0xFEA0 ≤ a.toNat ∧ a.toNat ≤ 0xFEFF)
    ∧ (∀ a ∈ ([0xFF01, 0xFF03] : List Word), 0xFF01 ≤ a.toNat ∧ a.toNat ≤ 0xFF03)
    ∧ (∀ a ∈ ([0xFF08, 0xFF0E] : List Word), 0xFF08 ≤ a.toNat ∧ a.toNat ≤ 0xFF0E)
    ∧ (∀ a ∈ ([0xFF10, 0xFF3F] : List Word), 0xFF10 ≤ a.toNat ∧ a.toNat ≤ 0xFF3F)
    ∧ (∀ a ∈ ([0xFF4C, 0xFF4F] : List Word), 0xFF4C ≤ a.toNat ∧ a.toNat ≤ 0xFF4F)
    ∧ (∀ a ∈ ([0xFF51, 0xFF7F] : List Word), 0xFF51 ≤ a.toNat ∧ a.toNat ≤ 0xFF7F)
    ∧ (∀ a ∈ ([0xA000, 0xBFFF] : List Word), 0xA000 ≤ a.toNat ∧ a.toNat ≤ 0xBFFF)
    ∧ (∃ c, State.reset.ext = .cartridge c ∧ c.ramPresent = false) ∧ State.reset.joypad = .noJoypad := by
  simp [State.reset, Ext.testRam]

/-- A falling edge with a reload, one without, and no edge (`TimerMoved`'s clauses). -/
theorem witness_TimerCounts :
    (armedLaw 0x05 0x000C = true ∧ armedLaw 0x05 (0x000C + 4) = false ∧ (0xFF : Byte) = 0xFF ∧ (0x10 : Byte) ≠ 0xFF)
      ∧ armedLaw 0x05 0x0000 = false ∧ armedLaw 0x05 (0x0008 + 4) = true := by decide

theorem witness_TimerWrites : armedLaw 0x05 0x0208 = true ∧ armedLaw 0x01 0x0208 = false ∧ armedLaw 0x04 0x0208 = true
    ∧ armedLaw 0x05 0 = false := by decide

theorem witness_DisplayRegisterWrites : (0x80 : Byte).getLsbD 7 = true ∧ (0xFF : Byte).getLsbD 7 = true := by decide

theorem witness_PowerOffAndLineCompare : (0x00 : Byte).getLsbD 7 = false ∧ (0x7F : Byte).getLsbD 7 = false := by decide

theorem witness_ModeTransitions :
    (∀ s ∈ [showing 0x02 0 [], showing 0x03 143 [], showing 0x00 142 [], showing 0x00 143 [], showing 0x01 152 [],
        showing 0x01 153 []], s.lcd.next = some s.cycle)
      ∧ (showing 0x02 0 []).lcd.mode = 2 ∧ (showing 0x03 143 []).lcd.mode = 3
      ∧ ((showing 0x00 142 []).lcd.mode = 0 ∧ (showing 0x00 142 []).lcd.ly.toNat < 143)
      ∧ ((showing 0x00 143 []).lcd.mode = 0 ∧ (showing 0x00 143 []).lcd.ly = 143)
      ∧ ((showing 0x01 152 []).lcd.mode = 1 ∧ (showing 0x01 152 []).lcd.ly.toNat < 153)
      ∧ ((showing 0x01 153 []).lcd.mode = 1 ∧ (showing 0x01 153 []).lcd.ly = 153) := by decide

/-- Both sides of the window's condition on entry to mode 3: WX - 7 below 160 and WY at the line, or either past. -/
theorem witness_ModeTransitions_window :
    let w (wx wy : Byte) : Lcd := { (showing 0x02 9 []).lcd with lcdc := 0xA0, wx := wx, wy := wy };
    (w 166 9).lcdc.getLsbD 5 = true ∧ (w 166 9).mode = 2 ∧ (w 166 9).ly = 9
      ∧ (w 166 9).wx.toNat < 167 ∧ (w 166 9).wy.toNat ≤ 9
      ∧ ¬(w 167 9).wx.toNat < 167 ∧ ¬(w 166 10).wy.toNat ≤ 9 := by decide

/-- R640: an entry into mode 3 raises the window's counter on a line where the window is active, and on no other. -/
theorem test_window_counter :
    let s (wx : Byte) : State :=
      { showing 0x02 9 [] with lcd := { (showing 0x02 9 []).lcd with lcdc := 0xA0, wx := wx, winY := 4 } };
    windowActive (s 166).lcd 9 = true ∧ windowActive (s 167).lcd 9 = false
      ∧ (composeCurrentLine (s 166)).lcd.winY = 5 ∧ (composeCurrentLine (s 167)).lcd.winY = 4 := by decide

theorem witness_ModeTransitions_off :
    let on := { State.reset with lcd := { Lcd.reset with lcdc := 0x80 } };
    (on.lcd.next = none ∧ on.lcd.lcdc.getLsbD 7 = true)
      ∧ (State.reset.lcd.next = none ∧ State.reset.lcd.lcdc.getLsbD 7 = false)
      ∧ (showing 0x02 0 []).lcd.next = some 0 ∧ 0 ≠ ({ showing 0x02 0 [] with cycle := 1 } : State).cycle := by decide

/-- `CopyStep`'s clauses: the first and the last index of a copy, and no copy. -/
theorem witness_ModeTransitions_copy :
    let w (k : Nat) : State := { State.reset with lcd := { Lcd.reset with dmaIdx := k } };
    (w 0).lcd.dmaIdx < 160 ∧ (w 159).lcd.dmaIdx < 160 ∧ 0xFE00 ≠ 0xFE00 + (w 159).lcd.dmaIdx
      ∧ 160 ≤ (w 160).lcd.dmaIdx := by decide

/-- R601, R660: the copied byte is read after the mode machine has acted. The copy from page 0xFF reads LY (0xFF44,
index 68) in the step that raises LY from 0x98 to 0x99. -/
theorem test_copy_after_mode :
    (lcdStep { State.reset with lcd := { Lcd.reset with
      lcdc := 0x80, stat := 0x01, ly := 0x98, next := some 0, dmaSrc := 0xFF00, dmaIdx := 68 } }).mem.read 0xFE44
        = 0x99 := by decide

theorem witness_FrameTiming :
    let s := showing 0x01 153 [];
    FrameDue s ∧ 0 < 1 ∧ 17555 < 17556 := by unfold FrameDue; decide

/-- The copy from the highest page: the last byte, and the end. -/
theorem witness_QuickCopy :
    let w (k : Nat) : State := { State.reset with lcd := { Lcd.reset with dmaSrc := 0xFF00, dmaIdx := k } };
    (0 < 160 ∧ 159 < 160) ∧ ((0xFDFF : Word).toNat < 0xFE00 ∧ 0xFEA0 ≤ (0xFEA0 : Word).toNat)
      ∧ (DmaInv (w 0) ∧ (w 0).lcd.dmaIdx < 160) ∧ (DmaInv (w 159) ∧ (w 159).lcd.dmaIdx < 160)
      ∧ (DmaInv (w 160) ∧ (w 160).lcd.dmaIdx = 160) ∧ (0xFE9E : Word).toNat ≠ 0xFE00 + 159 := by
  unfold DmaInv; decide

theorem witness_SpriteSelection : State.reset.lcd.lcdc.getLsbD 1 = false ∧ v9.lcd.lcdc.getLsbD 1 = true := by decide

/-- The cases of a pixel: a front sprite, the window, a behind sprite over a clear background, the background. -/
theorem witness_ComposedRow :
    let w := { v1 with lcd := { v1.lcd with lcdc := 0xB1, wx := 7 } };
    ((layerPixel v9 [0] 0 0).solid = true ∧ (layerPixel v9 [] 0 0).solid = false)
      ∧ (w.lcd.lcdc.getLsbD 5 = true ∧ w.lcd.wx.toNat - 7 < 160 ∧ w.lcd.wy.toNat ≤ 0 ∧ w.lcd.wx.toNat - 7 ≤ 0)
      ∧ ((backgroundPixel v9 0 0).solid = false ∧ (layerPixel v9 [0] 0 0).solid = true)
      ∧ (backgroundPixel v1 0 1).solid = true ∧ v1.lcd.lcdc.getLsbD 5 = false ∧ 159 < 160 := by decide

/-- The cases of `BackgroundLaw`, `WindowLaw` and `SpriteLaw`: the sprite's first and last column, and past both. -/
theorem witness_ComposedRow_laws :
    v1.lcd.lcdc.getLsbD 0 = true ∧ v9.lcd.lcdc.getLsbD 0 = false ∧ v1.lcd.wx.toNat - 7 ≤ 0
      ∧ 0 ∈ spritesOn v9 0 ∧ (v9.mem.read 0xFE01).toNat = 8
      ∧ (8 ≤ 0 + 8 ∧ 0 + 8 ≤ 8 + 7) ∧ (8 ≤ 7 + 8 ∧ 7 + 8 ≤ 8 + 7) ∧ 8 + 7 < 8 + 8 ∧ 0 + 8 < 9 := by decide

/-- R651, by hand: a 16-line sprite of tile 3 (so tiles 2 and 3) flipped both ways shows on its first line the last
row of tile 3, last column first: bit 0 of 0x803E. -/
theorem test_sprite_flipped :
    let s : State := { State.reset with
      mem := [(0x803E, 0x01), (0xFE00, 16), (0xFE01, 8), (0xFE02, 3), (0xFE03, 0x60)]
      lcd := { Lcd.reset with lcdc := 0x86, obp0 := 0xE4 } };
    (spritePixel s 0 0 0).colour = 1 ∧ (spritePixel s 0 0 0).solid = true ∧ (spritePixel s 0 0 1).solid = false
      ∧ (spritePixel s 0 1 0).solid = false ∧ (spritePixel s 0 0 8).solid = false := by decide

theorem witness_ComposeReadsVideoOnly :
    let t := { v1 with mem := v1.mem.write 0xC000 0x55 };
    t.lcd = v1.lcd ∧ v1.lcd.winY ≤ 144
      ∧ ∀ a : Nat, (0x8000 ≤ a ∧ a < 0xA000) ∨ (0xFE00 ≤ a ∧ a < 0xFEA0) → t.mem.read a = v1.mem.read a :=
  ⟨rfl, by decide, fun _ h => Memory.read_write_other v1.mem (a := 0xC000) 0x55 (by omega)⟩

theorem witness_AdvanceReaches : (0 < ({ State.reset with cycle := 1 } : State).cycle) ∧ State.reset.cycle ≤ 0
    ∧ 5 ≤ 5 ∧ 4 < 5 ∧ 0x8000 ≤ (0x9FFF : Word).toNat ∧ (0x9FFF : Word).toNat < 0xA000
    ∧ 0xBFFF < (0xC000 : Word).toNat ∧ (0xFF01 : Word) ≠ 0xFF00 := by decide

/-- A step can be iterated; a predicate is met at once; no fuel reaches a predicate that is not. -/
theorem witness_AdvanceReaches_loop :
    (∃ t, Reaches 1 State.reset t) ∧ runUntil (fun _ => true) 0 State.reset = some (.next State.reset)
      ∧ runUntil (fun _ => false) 0 State.reset = none
      ∧ ({ State.reset with fault := some (.stopFault 0) } : State).fault ≠ none := by
  obtain ⟨t, h⟩ := step_next State.reset
  exact ⟨⟨t, .tick rfl h (.stay t)⟩, rfl, rfl, by decide⟩

end Sys2Proof.Tests
end

/-! ## The machine right after reset (R90) -/

namespace Sys2Proof.Machine

/-- No byte of HRAM, WRAM, VRAM or OAM is listed after reset. -/
theorem reset_mem_read (n : Nat) : State.reset.mem.read n = 0 := rfl

/-- Every general register is clear after reset. -/
theorem reset_reg8 (r : Reg8) : State.reset.reg8 r = 0 := by cases r <;> rfl

/-- HRAM and IE after reset. -/
theorem busRead_reset_high {a : Word} (h : 0xFF80 ≤ a.toNat) : busRead State.reset a = 0 := by
  by_cases hie : a = 0xFFFF
  · rw [hie, busRead_ie]
    rfl
  · have hne : a.toNat ≠ 0xFFFF := fun e => hie (word_eq_iff.mpr e)
    rw [busRead_hram _ h (by omega), reset_mem_read]

/-- WRAM, its echo and OAM after reset. -/
theorem busRead_reset_work {a : Word} (h : 0xC000 ≤ a.toNat) (k : a.toNat < 0xFEA0) :
    busRead State.reset a = 0 := by
  obtain hw | he | ho : a.toNat ≤ 0xDFFF ∨ (0xE000 ≤ a.toNat ∧ a.toNat ≤ 0xFDFF) ∨ 0xFE00 ≤ a.toNat := by omega
  · rw [busRead_wram _ h hw, reset_mem_read]
  · rw [busRead_echo _ he.1 he.2, reset_mem_read]
  · rw [busRead_video _ (.inr ⟨ho, by omega⟩), reset_mem_read]

/-- VRAM after reset. -/
theorem busRead_reset_vram {a : Word} (h : 0x8000 ≤ a.toNat) (k : a.toNat < 0xA000) :
    busRead State.reset a = 0 := by
  rw [busRead_video _ (.inl ⟨h, by omega⟩), reset_mem_read]

/-- The twelve display registers are all the range 0xFF40..0xFF4B holds, and each is clear after reset. -/
theorem displayReg_reset {a : Word} (h : 0xFF40 ≤ a.toNat) (k : a.toNat ≤ 0xFF4B) :
    displayReg Lcd.reset a = some 0 := by
  have each : ∀ i : Fin 12, displayReg Lcd.reset (BitVec.ofNat 16 (0xFF40 + i)) = some 0 := by decide
  obtain ⟨i, hi⟩ : ∃ i : Fin 12, a = BitVec.ofNat 16 (0xFF40 + i) :=
    ⟨⟨a.toNat - 0xFF40, by omega⟩, by rw [Nat.add_sub_cancel' h, BitVec.ofNat_toNat, BitVec.setWidth_eq]⟩
  rw [hi, each]

/-- The blank image is blank: rows of 160 pixels, each of colour 0. -/
theorem blankImage_row {r : Row} (h : r ∈ blankImage) : r.length = 160 ∧ ∀ c ∈ r, c = 0 := by
  rw [List.eq_of_mem_replicate (n := Config.lcdHeight) h]
  exact ⟨List.length_replicate, fun _ => List.eq_of_mem_replicate⟩

/-- Settles O18: the memories and the display registers are read through the bus, region by region; every other
value is a field of `State.reset`. -/
theorem resetValues : Obligations.ResetValues := by
  have memories (a : Word) (h : 0xFF80 ≤ a.toNat ∨ (0x8000 ≤ a.toNat ∧ a.toNat < 0xA000)
      ∨ (0xC000 ≤ a.toNat ∧ a.toNat < 0xFEA0)) : busRead State.reset a = 0 := by
    obtain high | ⟨h1, h2⟩ | ⟨h1, h2⟩ := h
    · exact busRead_reset_high high
    · exact busRead_reset_vram h1 h2
    · exact busRead_reset_work h1 h2
  have display (a : Word) (h : 0xFF40 ≤ a.toNat ∧ a.toNat ≤ 0xFF4B) : busRead State.reset a = 0 :=
    busRead_displayReg _ h.1 h.2 (displayReg_reset h.1 h.2)
  exact ⟨rfl, rfl, rfl, rfl, rfl, rfl, rfl, rfl, reset_reg8, rfl, memories, rfl, rfl, rfl, rfl, display, rfl, rfl,
    rfl, List.length_replicate, fun _ => blankImage_row, rfl, rfl⟩

end Sys2Proof.Machine

/-! ## Instructions whose bytes would pass 0xFFFF (R167) -/

namespace Sys2Proof.Machine

/-- Fetch reads up to `k` bytes and stops at 0xFFFF. -/
theorem bytesFrom_length (u : State) (k a : Nat) : (bytesFrom u k a).length = min k (65536 - a) := by
  induction k generalizing a with
  | zero => exact (Nat.zero_min _).symm
  | succ k ih =>
    by_cases h : a < Config.addressLimit
    · have inside : a < 65536 := h
      rw [bytesFrom, if_pos h, List.length_cons, ih]
      omega
    · have outside : ¬ a < 65536 := h
      rw [bytesFrom, if_neg h, List.length_nil]
      omega

/-- The opcode byte at PC is always there. -/
theorem bytesFrom_pc (u : State) (k : Nat) :
    bytesFrom u (k + 1) u.pc.toNat = busRead u u.pc :: bytesFrom u k (u.pc.toNat + 1) := by
  rw [bytesFrom, if_pos (show u.pc.toNat < Config.addressLimit from u.pc.isLt), BitVec.ofNat_toNat,
    BitVec.setWidth_eq]

/-- No instruction is longer than three bytes. -/
theorem opcodeLength_le (op : Byte) : opcodeLength op ≤ 3 := by
  unfold opcodeLength
  split
  · exact Nat.le_refl 3
  · split
    · exact Nat.le_succ 2
    · exact Nat.le_of_ble_eq_true rfl

/-- Where the bytes end before the instruction does, the first missing one is the one after the last. -/
theorem decode_short {op : Byte} {rest : List Byte} (h : rest.length + 1 < opcodeLength op) :
    decode (op :: rest) = .error (.missingOperand (rest.length + 1)) := by
  have row := shape_law op
  cases shape : decodeDirect op with rw [shape] at row
  | op i =>
    have one : opcodeLength op = 1 := row.2.2
    omega
  | imm8 mk =>
    have two : opcodeLength op = 2 := row.2
    obtain rfl : rest = [] := List.length_eq_zero_iff.mp (by omega)
    simp [decode, shape]
  | imm16 mk =>
    have three : opcodeLength op = 3 := row.2
    match rest, h with
    | [], _ => simp [decode, shape]
    | [lo], _ => simp [decode, shape]
    | lo :: hi :: rest, h => simp only [List.length_cons] at h; omega
  | cbEscape =>
    have two : opcodeLength op = 2 := by rw [show op = 0xCB from row]; rfl
    obtain rfl : rest = [] := List.length_eq_zero_iff.mp (by omega)
    simp [decode, shape]

/-- The processor's step where an instruction is due and its fetch finds an operand byte missing: the fault, and
nothing else (R167, R540). -/
theorem cpuStep_missingOperand {u : State} (hx : Executes u) {k : Nat} (h : fetch u = .error (.missingOperand k)) :
    cpuStep u = .next (raiseFault (.addressRange (u.pc.toNat + k)) u) := by
  obtain ⟨due, noInterrupt⟩ := hx
  unfold cpuStep
  rw [wakeUp_due due, if_pos due, noInterrupt, if_neg Bool.false_ne_true, executeInstruction, h]
  exact congrArg Host.Outcome.next (settle_fault rfl)

/-- Fetch where the instruction at PC does not fit below 0x10000: the missing byte is the one at 0x10000. -/
theorem fetch_past_end {u : State} (h : 65536 - opcodeLength (busRead u u.pc) < u.pc.toNat) :
    ∃ k, fetch u = .error (.missingOperand k) ∧ u.pc.toNat + k = 0x10000 := by
  have inside : u.pc.toNat < 65536 := u.pc.isLt
  have length := bytesFrom_length u 2 (u.pc.toNat + 1)
  have atMost : opcodeLength (busRead u u.pc) ≤ 3 := opcodeLength_le _
  refine ⟨(bytesFrom u 2 (u.pc.toNat + 1)).length + 1, ?_, by omega⟩
  rw [fetch, bytesFrom_pc]
  exact decode_short (by omega)

/-- Settles O6: fetch runs out of bytes at 0x10000, and the missing byte is the only thing the processor's step
leaves a trace of. -/
theorem operandFetchFaults : Obligations.OperandFetchFaults := by
  intro s ok due past
  obtain ⟨k, missing, first⟩ := fetch_past_end past
  rw [step_eq ok, cpuStep_missingOperand due missing, first]
  exact congrArg Host.Outcome.next (countCycle_fault rfl)

end Sys2Proof.Machine

/-! ## STOP and the unused opcodes (R492, R496) -/

namespace Sys2Proof.Machine

/-- A row without operand bytes decodes from its opcode byte alone, whatever follows. -/
theorem decode_noOperand {op : Byte} {i : Instr} (h : decodeDirect op = .op i) (rest : List Byte) :
    decode (op :: rest) = .ok i rest := by
  simp only [decode, h]

/-- The slot of an unused opcode holds the instruction of that opcode, and no operand byte (R180). -/
theorem decodeDirect_unused (u : UnusedOp) : decodeDirect u.byte = .op (.unused u) := by cases u <;> rfl

/-- The eleven bytes of R180 are the bytes of the unused opcodes. -/
theorem exists_unusedOp_byte {op : Byte}
    (h : op ∈ ([0xD3, 0xDB, 0xDD, 0xE3, 0xE4, 0xEB, 0xEC, 0xED, 0xF4, 0xFC, 0xFD] : List Byte)) :
    ∃ u : UnusedOp, u.byte = op := by
  have mapped : op ∈ [.xD3, .xDB, .xDD, .xE3, .xE4, .xEB, .xEC, .xED, .xF4, .xFC, .xFD].map UnusedOp.byte := h
  obtain ⟨u, -, byte⟩ := List.mem_map.mp mapped
  exact ⟨u, byte⟩

/-- Settles O47: both kinds of row hold no operand byte, and their meaning raises the fault and does no more. -/
theorem stopAndUnusedFault : Obligations.StopAndUnusedFault := by
  intro s rest
  have stop : decodeDirect 0x10 = .op .stop := rfl
  refine ⟨⟨decode_noOperand stop rest, exec_stop s⟩, fun op unused => ?_⟩
  obtain ⟨u, rfl⟩ := exists_unusedOp_byte unused
  exact ⟨u, decode_noOperand (decodeDirect_unused u) rest, exec_unused s u⟩

end Sys2Proof.Machine

/-! ## The timer (R554 to R559) -/

namespace Sys2Proof.Machine

/-- The bit that TAC selects, with TAC's low two bits read as a number (R555). -/
theorem timerBit_eq (tac : Byte) :
    timerBit tac = if tac.toNat % 4 = 0 then 9 else if tac.toNat % 4 = 1 then 3
      else if tac.toNat % 4 = 2 then 5 else 7 := by
  have low : (tac.extractLsb' 0 2).toNat = tac.toNat % 4 := by
    rw [BitVec.extractLsb'_toNat, Nat.shiftRight_zero]
  have lt : tac.toNat % 4 < 4 := Nat.mod_lt _ (by decide)
  rw [timerBit, low]
  generalize tac.toNat % 4 = k at lt ⊢
  match k, lt with
  | 0, _ | 1, _ | 2, _ | 3, _ => rfl

/-- The model's armed state is the law's. -/
theorem Timer.armed_eq (t : Timer) : t.armed = armedLaw t.tac t.tDiv := by
  rw [Timer.armed, armedLaw, timerBit_eq]

/-- TIMA overflows: reload and request (R556). -/
theorem timaTick_overflow {s : State} (full : s.timer.tima = 0xFF) :
    timaTick s = { s with timer := { s.timer with tima := s.timer.tma }, iflag := s.iflag ||| 0x04 } :=
  if_pos full

/-- TIMA counts (R556). -/
theorem timaTick_count {s : State} (room : s.timer.tima ≠ 0xFF) :
    timaTick s = { s with timer := { s.timer with tima := s.timer.tima + 1 } } :=
  if_neg room

/-- The armed state falls: TIMA ticks. -/
theorem timerEdge_falls {t : Timer} {s : State} (before : s.timer.armed = true) (after : t.armed = false) :
    timerEdge t s = timaTick { s with timer := t } := by
  rw [timerEdge, before, after]
  rfl

/-- The armed state does not fall: the timer's registers become the given ones, and that is all. -/
theorem timerEdge_holds {t : Timer} {s : State} (h : s.timer.armed = false ∨ t.armed = true) :
    timerEdge t s = { s with timer := t } := by
  rw [timerEdge]
  obtain before | after := h
  · rw [before]
    rfl
  · rw [after, Bool.not_true, Bool.and_false]
    rfl

/-- A tick of TIMA changes the timer and IF only. -/
theorem timaTick_rest (s : State) :
    timaTick s = { s with timer := (timaTick s).timer, iflag := (timaTick s).iflag } := by
  by_cases full : s.timer.tima = 0xFF
  · rw [timaTick_overflow full]
  · rw [timaTick_count full]

/-- Every action of the timer: the counter and TAC are replaced, with TIMA and TMA as they were, and a falling edge
of the armed state ticks TIMA (R554, R557, R559). -/
theorem timerEdge_moved {t : Timer} {s : State} (tima : t.tima = s.timer.tima) (tma : t.tma = s.timer.tma) :
    TimerMoved s (timerEdge t s) t.tDiv t.tac where
  tDiv := timerEdge_tDiv t s
  tac := timerEdge_tac t s
  tma := (timerEdge_tma t s).trans tma
  tick before after := by
    rw [← Timer.armed_eq] at before after
    rw [timerEdge_falls before after, ← tima, ← tma]
    refine ⟨fun full => ?_, fun room => ?_⟩
    · rw [timaTick_overflow (s := { s with timer := t }) full]
      exact ⟨rfl, rfl⟩
    · rw [timaTick_count (s := { s with timer := t }) room]
      exact ⟨rfl, rfl⟩
  hold h := by
    rw [← Timer.armed_eq, ← Timer.armed_eq] at h
    rw [timerEdge_holds h]
    exact ⟨tima, rfl⟩
  rest := by
    unfold timerEdge
    dsimp only
    split
    · exact timaTick_rest { s with timer := t }
    · rfl

/-- Settles O50: the timer's step is the edge with the counter raised by TIMER_STEP = 4. -/
theorem timerCounts : Obligations.TimerCounts := fun _ => timerEdge_moved rfl rfl

/-- Settles O51: at each of the four addresses the bus reaches the timer only; DIV and TAC are edges, TIMA and TMA
plain cells. -/
theorem timerWrites : Obligations.TimerWrites := by
  intro s v
  refine ⟨?div, ?tac, busWrite_tima s v, busWrite_tma s v, ?read⟩
  case div =>
    rw [busWrite_div]
    exact timerEdge_moved rfl rfl
  case tac =>
    rw [busWrite_tac]
    exact timerEdge_moved rfl rfl
  case read => exact busRead_timer s (by simp) (by simp) rfl

end Sys2Proof.Machine

/-! ## The terminal state (R540) -/

namespace Sys2Proof.Machine

/-- A processor's step that ends with the fault mark set did nothing but set it: each of the other ways keeps the
empty mark. -/
theorem CpuStepped.eq_raiseFault {u t : State} {f : Fault} (way : CpuStepped u t) (ok : u.fault = none)
    (mark : t.fault = some f) : t = raiseFault f u := by
  have awake : (wakeUp u).fault = none := (wakeUp_fault u).trans ok
  have unmarked (h : t.fault = none) : t = raiseFault f u :=
    absurd (h.symm.trans mark) (Option.some_ne_none f).symm
  cases way with
  | idle => exact unmarked ok
  | faulted g => rw [show g = f from Option.some.inj mark]
  | dispatched i t d => exact unmarked (d.fault.trans awake)
  | ran i t r => exact unmarked (r.fault.trans awake)

/-- Counting the cycle leaves the fault mark. -/
@[simp] theorem countCycle_mark (s : State) : (countCycle s).fault = s.fault := by
  unfold countCycle
  split <;> rfl

/-- Settles O9: a marked processor's step is the bare fault, the cycle is then not counted, and the timer's and the
display's steps keep the clock; a marked machine steps to itself. -/
theorem faultLeavesState : Obligations.FaultLeavesState := by
  intro s t f ok one mark
  obtain ⟨u, way, stepped⟩ := step_stepped ok
  obtain rfl : countCycle u = t := Host.Outcome.next.inj (stepped.symm.trans one)
  rw [countCycle_mark] at mark
  have bare : u = raiseFault f (beforeCpu s) :=
    way.eq_raiseFault ((beforeCpu_kept s).fault.trans ok) mark
  have marked : u.fault ≠ none := mark ▸ Option.some_ne_none f
  rw [countCycle_fault mark]
  exact ⟨bare, bare ▸ (beforeCpu_kept s).cycle, step_faulted marked⟩

end Sys2Proof.Machine

/-! ## The sprites of a line (R650) -/

namespace Sys2Proof.Machine

/-- The height of R650 as an integer. -/
theorem spriteHeight_cast (d : Lcd) : (spriteHeight d : Int) = if d.lcdc.getLsbD 2 then 16 else 8 :=
  Nat.cast_ite ..

/-- The condition of R650 for a sprite to lie on the line, as one decision. -/
theorem spriteHits_eq (s : State) (line k : Nat) :
    spriteHits s line k = decide (((oamByte s (4 * k)).toNat : Int) - 16 ≤ line
      ∧ (line : Int) < ((oamByte s (4 * k)).toNat : Int) - 16 + (if s.lcd.lcdc.getLsbD 2 then 16 else 8)) := by
  rw [← spriteHeight_cast, Bool.decide_and]
  rfl

/-- The key of the order of R650: X, then the index, compared lexicographically. -/
def spriteKey (s : State) (k : Nat) : Nat ×ₗ Nat := toLex ((oamByte s (4 * k + 1)).toNat, k)

/-- The index is part of the key. -/
theorem spriteKey_injective (s : State) : Function.Injective (spriteKey s) :=
  fun _ _ same => congrArg (fun key => (ofLex key).2) same

/-- `spriteBefore` compares the keys. -/
theorem spriteBefore_iff (s : State) (j k : Nat) :
    spriteBefore s j k = true ↔ spriteKey s j ≤ spriteKey s k := by
  rw [spriteKey, spriteKey, Prod.Lex.toLex_le_toLex]
  simp [spriteBefore]

/-- Keys in strict order are sprites in the order of R650. -/
theorem spriteKey_lt_iff (s : State) (j k : Nat) :
    spriteKey s j < spriteKey s k ↔ (oamByte s (4 * j + 1)).toNat < (oamByte s (4 * k + 1)).toNat
      ∨ ((oamByte s (4 * j + 1)).toNat = (oamByte s (4 * k + 1)).toNat ∧ j < k) :=
  Prod.Lex.toLex_lt_toLex

/-- On the keys, the model's insertion is the library's. -/
theorem map_insertSprite (s : State) (k : Nat) (l : List Nat) :
    (insertSprite s k l).map (spriteKey s) = (l.map (spriteKey s)).orderedInsert (· ≤ ·) (spriteKey s k) := by
  induction l with
  | nil => rfl
  | cons j l ih =>
    rw [insertSprite, List.map_cons, List.orderedInsert_cons]
    by_cases first : spriteKey s k ≤ spriteKey s j
    · rw [if_pos ((spriteBefore_iff s k j).mpr first), if_pos first]
      rfl
    · rw [if_neg (mt (spriteBefore_iff s k j).mp first), if_neg first, List.map_cons, ih]

/-- On the keys, the model's sort is the library's insertion sort. -/
theorem map_sortSprites (s : State) (l : List Nat) :
    (sortSprites s l).map (spriteKey s) = (l.map (spriteKey s)).insertionSort (· ≤ ·) := by
  induction l with
  | nil => rfl
  | cons k l ih => rw [sortSprites, map_insertSprite, ih, List.map_cons, List.insertionSort_cons]

/-- Sorted sprites, each given once, are in strict order of their keys. -/
theorem sortSprites_pairwise {s : State} {l : List Nat} (once : l.Nodup) :
    (sortSprites s l).Pairwise (fun j k => spriteKey s j < spriteKey s k) := by
  have sorted : ((sortSprites s l).map (spriteKey s)).SortedLE := by
    rw [map_sortSprites]
    exact (List.pairwise_insertionSort _ _).sortedLE
  have distinct : ((sortSprites s l).map (spriteKey s)).Nodup :=
    ((sortSprites_perm s l).nodup_iff.mpr once).map (spriteKey_injective s)
  exact List.pairwise_map.mp (sorted.sortedLT_of_nodup distinct).pairwise

/-- With sprites off the list is empty. -/
theorem spritesOn_off {s : State} (off : s.lcd.lcdc.getLsbD 1 = false) (line : Nat) : spritesOn s line = [] :=
  if_neg (Bool.eq_false_iff.mp off)

/-- With sprites on the list is the first ten hits, sorted. -/
theorem spritesOn_on {s : State} (on : s.lcd.lcdc.getLsbD 1 = true) (line : Nat) :
    spritesOn s line = sortSprites s (((List.range 40).filter (spriteHits s line)).take 10) :=
  if_pos on

/-- Settles O57: the sort is the library's insertion sort by `spriteKey`, and the indices it is given are distinct. -/
theorem spriteSelection : Obligations.SpriteSelection := by
  intro s line
  refine ⟨fun off => spritesOn_off off line, fun on => ?_⟩
  simp only [← spriteHits_eq, ← spriteKey_lt_iff]
  rw [spritesOn_on on]
  have once : (((List.range 40).filter (spriteHits s line)).take 10).Nodup :=
    (List.nodup_range.filter _).sublist (List.take_sublist 10 _)
  exact ⟨sortSprites_perm s _, sortSprites_pairwise once⟩

end Sys2Proof.Machine

/-! ## Decoding and encoding (R161 to R177) -/

namespace Sys2Proof.Machine

/-- A row with one operand byte decodes from its opcode byte and that byte. -/
theorem decode_imm8 {op : Byte} {mk : Byte → Instr} (h : decodeDirect op = .imm8 mk) (n : Byte) (rest : List Byte) :
    decode (op :: n :: rest) = .ok (mk n) rest := by
  simp only [decode, h]

/-- A row with two operand bytes decodes from its opcode byte and a word, low byte first. -/
theorem decode_imm16 {op : Byte} {mk : Word → Instr} (h : decodeDirect op = .imm16 mk) (n : Word)
    (rest : List Byte) : decode (op :: lo8 n :: hi8 n :: rest) = .ok (mk n) rest := by
  simp only [decode, h, make16_hi_lo]

/-- The escape byte is followed by the second opcode byte, which alone selects the instruction. -/
theorem decode_prefixed (op2 : Byte) (rest : List Byte) :
    decode (0xCB :: op2 :: rest) = .ok (decodePrefixed op2) rest := rfl

/-- Settles O2: family by family, each row of the grids is found by the field pattern of its format. -/
theorem decodeEncode : Obligations.DecodeEncode := by
  intro i rest wf
  cases family_all i with
  | move r q => cases r <;> cases q <;> exact decode_noOperand rfl rest
  | loadImm r n => cases r <;> exact decode_imm8 rfl n rest
  | loadHl r => cases r <;> exact decode_noOperand rfl rest
  | storeHl r => cases r <;> exact decode_noOperand rfl rest
  | storeHlImm n => exact decode_imm8 rfl n rest
  | loadA p =>
    cases p with
    | abs n => exact decode_imm16 rfl n rest
    | page a => exact decode_imm8 rfl a rest
    | bc | de | pageC => exact decode_noOperand rfl rest
  | storeA p =>
    cases p with
    | abs n => exact decode_imm16 rfl n rest
    | page a => exact decode_imm8 rfl a rest
    | bc | de | pageC => exact decode_noOperand rfl rest
  | pairImm p n => cases p <;> exact decode_imm16 rfl n rest
  | push q => cases q <;> exact decode_noOperand rfl rest
  | pop q => cases q <;> exact decode_noOperand rfl rest
  | aluReg op r => cases op <;> cases r <;> exact decode_noOperand rfl rest
  | aluHl op => cases op <;> exact decode_noOperand rfl rest
  | aluImm op n => cases op <;> exact decode_imm8 rfl n rest
  | incReg r => cases r <;> exact decode_noOperand rfl rest
  | decReg r => cases r <;> exact decode_noOperand rfl rest
  | addHl p => cases p <;> exact decode_noOperand rfl rest
  | incPair p => cases p <;> exact decode_noOperand rfl rest
  | decPair p => cases p <;> exact decode_noOperand rfl rest
  | rotA left carry => cases left <;> cases carry <;> exact decode_noOperand rfl rest
  | rotReg op r => cases op <;> cases r <;> exact decode_prefixed _ rest
  | rotHl op => cases op <;> exact decode_prefixed _ rest
  | bitReg b r => fin_cases b <;> cases r <;> exact decode_prefixed _ rest
  | bitHl b => fin_cases b <;> exact decode_prefixed _ rest
  | resReg b r => fin_cases b <;> cases r <;> exact decode_prefixed _ rest
  | resHl b => fin_cases b <;> exact decode_prefixed _ rest
  | setReg b r => fin_cases b <;> cases r <;> exact decode_prefixed _ rest
  | setHl b => fin_cases b <;> exact decode_prefixed _ rest
  | jpCond cc n => cases cc <;> exact decode_imm16 rfl n rest
  | jrCond cc e => cases cc <;> exact decode_imm8 rfl e rest
  | callCond cc n => cases cc <;> exact decode_imm16 rfl n rest
  | retCond cc => cases cc <;> exact decode_noOperand rfl rest
  | rst y => fin_cases y <;> exact decode_noOperand rfl rest
  | unused u => cases u <;> exact decode_noOperand rfl rest
  | storeSp n | jp n | call n => exact decode_imm16 rfl n rest
  | hlSp e | addSp e | jr e => exact decode_imm8 rfl e rest
  | pre op2 => exact absurd wf Bool.false_ne_true
  | loadAInc | loadADec | storeAInc | storeADec | spHl | incHl | decHl | daa | cpl | scf | ccf | jpHl | ret | reti
  | nop | halt | stop | di | ei => exact decode_noOperand rfl rest

/-- What a successful decode read, by the row of its opcode byte: the instruction is well-formed, and its encoding
is the bytes read. -/
theorem encode_of_decode {bytes rest : List Byte} {i : Instr} (h : decode bytes = .ok i rest) :
    i.wellFormed = true ∧ bytes = encode i ++ rest := by
  match bytes, h with
  | op :: tail, h =>
    have row := shape_law op
    cases shape : decodeDirect op with (rw [shape] at row; simp only [decode, shape] at h)
    | op j =>
      obtain ⟨wf, code, -⟩ := row
      cases h
      exact ⟨wf, by rw [code]; rfl⟩
    | imm8 mk =>
      match tail, h with
      | n :: tail, h =>
        obtain ⟨wf, code⟩ := row.1 n
        cases h
        exact ⟨wf, by rw [code]; rfl⟩
    | imm16 mk =>
      match tail, h with
      | lo :: hi :: tail, h =>
        obtain ⟨wf, code⟩ := row.1 (make16 hi lo)
        cases h
        exact ⟨wf, by rw [code, lo8_make16, hi8_make16]; rfl⟩
    | cbEscape =>
      obtain rfl : op = 0xCB := row
      match tail, h with
      | op2 :: tail, h =>
        obtain ⟨wf, code⟩ := prefixed_law op2
        cases h
        exact ⟨wf, by rw [code]; rfl⟩

/-- Three bytes hold an instruction, as long as R177 says of the first. -/
theorem decode_three (op b1 b2 : Byte) (more : List Byte) :
    ∃ i rest, decode (op :: b1 :: b2 :: more) = .ok i rest ∧ (encode i).length = opcodeLength op := by
  have row := shape_law op
  cases shape : decodeDirect op with rw [shape] at row
  | op i =>
    obtain ⟨-, code, length⟩ := row
    exact ⟨i, _, decode_noOperand shape _, by rw [code, length]; rfl⟩
  | imm8 mk =>
    obtain ⟨law, length⟩ := row
    exact ⟨mk b1, _, decode_imm8 shape _ _, by rw [(law b1).2, length]; rfl⟩
  | imm16 mk =>
    obtain ⟨law, length⟩ := row
    refine ⟨mk (make16 b2 b1), more, ?_, by rw [(law _).2, length]; rfl⟩
    have read := decode_imm16 shape (make16 b2 b1) more
    rwa [lo8_make16, hi8_make16] at read
  | cbEscape =>
    obtain rfl : op = 0xCB := row
    exact ⟨decodePrefixed b1, _, decode_prefixed b1 _, by rw [(prefixed_law b1).2]; rfl⟩

/-- Settles O3. -/
theorem encodeDecode : Obligations.EncodeDecode :=
  ⟨fun _ _ _ read => encode_of_decode read, decode_three⟩

/-- Settles O1: each word's row is found by computation. -/
theorem specWordsDecode : Obligations.SpecWordsDecode := by
  unfold Obligations.SpecWordsDecode
  repeat' constructor

end Sys2Proof.Machine

/-! ## Invariants of the devices: the canonical form of the memories, the counters -/

namespace Sys2Proof.Machine

/-- Settles O14: the devices' steps and every bus write store at most one byte in each memory, and a store keeps the
form. -/
theorem memoryInvKept : Obligations.MemoryInvKept := fun _ _ =>
  step_keeps (fun s h => mem_write_inv h (beforeCpu_ext s) (beforeCpu_mem s)) busWrite_memoryInv (fun _ _ h => h)
    (fun _ _ same h => ⟨same.mem ▸ h.1, same.ext ▸ h.2⟩)

/-- A word's low two bits as a number. -/
theorem and_three_eq_zero (w : Word) : w &&& 3 = 0 ↔ w.toNat % 4 = 0 := by
  rw [← BitVec.toNat_inj, BitVec.toNat_and]
  exact (Nat.and_two_pow_sub_one_eq_mod w.toNat 2).symm ▸ Iff.rfl

/-- A bus write keeps the primary counter or clears it (R557). -/
theorem busWrite_tDiv (a : Word) (v : Byte) (s : State) :
    (busWrite a v s).timer.tDiv = s.timer.tDiv ∨ (busWrite a v s).timer.tDiv = 0 := by
  cases busWrite_effect a v s with
  | div e => rw [e]; exact .inr (timerEdge_tDiv _ s)
  | tac v e => rw [e]; exact .inl (timerEdge_tDiv _ s)
  | timerCell u div e => rw [e]; exact .inl div
  | lcdc v e => rw [e, (writeLcdc_acted v s).timer]; exact .inl rfl
  | lyc v e => rw [e, (writeLyc_acted v s).timer]; exact .inl rfl
  | nothing e | memory _ _ e | ie _ e | iflag _ e | ext _ _ e | joypad _ _ e | stat _ e | dma _ e | lcdCell _ _ e =>
    rw [e]; exact .inl rfl

/-- The timer's counter moves in steps of 4 or is cleared (R554, R557). -/
theorem step_timerInv {s t : State} (h : TimerInv s) (one : step s = .next t) : TimerInv t := by
  refine step_keeps (fun s h => ?_) (fun a v s h => ?_) (fun _ _ h => h) (fun s t same h => ?_) h one
  · unfold TimerInv at h ⊢
    rw [and_three_eq_zero] at h ⊢
    rw [beforeCpu_tDiv, BitVec.toNat_add]
    simp only [BitVec.reduceToNat]
    omega
  · unfold TimerInv at h ⊢
    obtain e | e := busWrite_tDiv a v s <;> rw [e]
    · exact h
    · rfl
  · unfold TimerInv
    rw [same.timer]
    exact h

/-- A bus write keeps the quick-copy's source and index, or starts a copy at a page (R660). -/
theorem busWrite_dmaState (a : Word) (v : Byte) (s : State) :
    ((busWrite a v s).lcd.dmaSrc = s.lcd.dmaSrc ∧ (busWrite a v s).lcd.dmaIdx = s.lcd.dmaIdx)
      ∨ ∃ page, (busWrite a v s).lcd.dmaSrc = make16 page 0 ∧ (busWrite a v s).lcd.dmaIdx = 0 := by
  cases busWrite_effect a v s with
  | dma page e => rw [e]; exact .inr ⟨page, rfl, rfl⟩
  | lcdCell d same e => rw [e]; exact .inl ⟨same.dmaSrc, same.dmaIdx⟩
  | lcdc v e => rw [e, (writeLcdc_acted v s).lcd]; split <;> exact .inl ⟨rfl, rfl⟩
  | lyc v e => rw [e, (writeLyc_acted v s).lcd]; exact .inl ⟨rfl, rfl⟩
  | div e => rw [e, writeDiv, timerEdge_lcd]; exact .inl ⟨rfl, rfl⟩
  | tac v e => rw [e, writeTac, timerEdge_lcd]; exact .inl ⟨rfl, rfl⟩
  | nothing e | memory _ _ e | ie _ e | iflag _ e | ext _ _ e | joypad _ _ e | stat _ e | timerCell _ _ e =>
    rw [e]; exact .inl ⟨rfl, rfl⟩

/-- The display's step raises the quick-copy's index up to 160 and keeps its source (R660). -/
theorem lcdStep_dmaState (s : State) :
    (lcdStep s).lcd.dmaSrc = s.lcd.dmaSrc ∧ (lcdStep s).lcd.dmaIdx = dmaNext s.lcd.dmaIdx := by
  obtain ⟨src, idx⟩ := Lcd.stepped_dma s.lcd s.cycle (composedRow s)
  rw [lcdStep_lcd]
  exact ⟨src, congrArg dmaNext idx⟩

theorem dmaNext_le {k : Nat} (h : k ≤ Config.dmaLength) : dmaNext k ≤ Config.dmaLength := by
  unfold dmaNext
  split
  · assumption
  · exact h

/-- The quick-copy's source stays a page and its index in range (R77). -/
theorem step_dmaInv {s t : State} (h : DmaInv s) (one : step s = .next t) : DmaInv t := by
  refine step_keeps (fun s h => ?_) (fun a v s h => ?_) (fun _ _ h => h) (fun s t same h => ?_) h one
  · obtain ⟨src, idx⟩ := lcdStep_dmaState (timerStep s)
    rw [timerStep_lcd] at src idx
    exact ⟨by rw [beforeCpu, src]; exact h.1, by rw [beforeCpu, idx]; exact dmaNext_le h.2⟩
  · obtain ⟨src, idx⟩ | ⟨page, src, idx⟩ := busWrite_dmaState a v s
    · exact ⟨by rw [src]; exact h.1, by rw [idx]; exact h.2⟩
    · exact ⟨by rw [src, lo8_make16], by rw [idx]; exact Nat.zero_le _⟩
  · unfold DmaInv
    rw [same.lcd]
    exact h

/-- Waking keeps the clock. -/
theorem wakeUp_cycle (u : State) : (wakeUp u).cycle = u.cycle := by unfold wakeUp; split <;> rfl

/-- A waiting processor is not woken. -/
theorem wakeUp_waiting {u : State} {n : Nat} (h : u.cpuNext = some n) : wakeUp u = u := by
  unfold wakeUp wakes
  rw [h]
  rfl

/-- Counting the cycle leaves what the processor waits for. -/
@[simp] theorem countCycle_cpuNext (t : State) : (countCycle t).cpuNext = t.cpuNext := by
  unfold countCycle
  split <;> rfl

theorem countCycle_cycle_le (t : State) : (countCycle t).cycle ≤ t.cycle + 1 := by
  unfold countCycle
  split
  · exact Nat.le_refl _
  · exact Nat.le_succ _

/-- The processor is due now or later (R530): a waiting one is not due in this cycle, and a unit of work that raised
no fault makes it due in a later one. -/
theorem step_cpuInv {s t : State} (h : CpuInv s) (one : step s = .next t) : CpuInv t := by
  by_cases ok : s.fault = none
  swap
  · rw [step_faulted ok] at one
    cases one
    exact h
  obtain ⟨u, way, stepped⟩ := step_stepped ok
  obtain rfl : countCycle u = t := Host.Outcome.next.inj (stepped.symm.trans one)
  intro n due
  rw [countCycle_cpuNext] at due
  have kept := beforeCpu_kept s
  have before (m : Nat) (d : (beforeCpu s).cpuNext = some m) : (beforeCpu s).cycle ≤ m := by
    rw [kept.cycle]
    exact h m (kept.cpuNext ▸ d)
  have count := countCycle_cycle_le u
  cases way with
  | idle waiting =>
    rw [wakeUp_waiting due, due] at waiting
    have ahead : (beforeCpu s).cycle ≤ n := before n due
    have other : n ≠ (beforeCpu s).cycle := fun e => waiting (congrArg some e)
    omega
  | faulted f =>
    rw [countCycle_fault (f := f) rfl]
    exact before n due
  | dispatched i _ d =>
    have later : (wakeUp (beforeCpu s)).cycle + 5 = n := Option.some.inj (d.cpuNext.symm.trans due)
    have clock := d.cycle
    omega
  | ran i _ r =>
    have clock := r.cycle
    obtain ⟨k, atLeast, -, e⟩ | ⟨-, e⟩ := r.due
    · have later : (wakeUp (beforeCpu s)).cycle + k = n := Option.some.inj (e.symm.trans due)
      omega
    · rw [e] at due
      cases due

/-- Settles O15. -/
theorem countersInvKept : Obligations.CountersInvKept :=
  ⟨fun _ _ => step_timerInv, fun _ _ => step_dmaInv, fun _ _ => step_cpuInv⟩

end Sys2Proof.Machine

/-! ## The mode machine inside the frame (R601) -/

namespace Sys2Proof.Machine

/-! ### The six transitions, one equation each -/

section transitions
variable {d : Lcd} (c : Nat) (row : Row)

/-- MODE_2 to MODE_3 (R622). -/
theorem Lcd.moved_scan (h : d.mode = 2) : d.moved c row =
    { d.withMode 3 with
      next := some (c + 43), lineBuf := d.lineBuf ++ [row],
      winY := if windowActive d d.ly.toNat then d.winY + 1 else d.winY } := by
  unfold Lcd.moved
  rw [h]
  rfl

/-- MODE_3 to MODE_0 (R623). -/
theorem Lcd.moved_transfer (h : d.mode = 3) : d.moved c row = { d.withMode 0 with next := some (c + 51) } := by
  unfold Lcd.moved
  rw [h]
  rfl

/-- MODE_0 to MODE_2 of the next line (R625). -/
theorem Lcd.moved_hblank (h : d.mode = 0) (line : d.ly.toNat < 143) :
    d.moved c row = d.enteredMode2 (d.ly + 1) c := by
  unfold Lcd.moved
  rw [h]
  exact if_pos line

/-- MODE_0 to MODE_1, with the frame published (R624). -/
theorem Lcd.moved_lastLine (h : d.mode = 0) (line : d.ly.toNat = 143) : d.moved c row =
    { (({ d with ly := 144 } : Lcd).compared.withMode 1) with image := d.lineBuf, next := some (c + 114) } := by
  unfold Lcd.moved
  rw [h]
  exact (if_neg (by omega)).trans (if_pos line)

/-- The next line of the vertical blank (R626). -/
theorem Lcd.moved_vblank (h : d.mode = 1) (line : d.ly.toNat < 153) : d.moved c row =
    { ({ d with ly := d.ly + 1 } : Lcd).compared with next := some (c + 114) } := by
  unfold Lcd.moved
  rw [h]
  exact if_pos line

/-- The vertical blank to line 0 of a new frame (R626). -/
theorem Lcd.moved_newFrame (h : d.mode = 1) (line : d.ly.toNat = 153) :
    d.moved c row = d.frameReset.enteredMode2 0 c := by
  unfold Lcd.moved
  rw [h]
  exact (if_neg (by omega)).trans (if_pos line)

end transitions

/-! ### The invariant on the registers and a cycle -/

/-- `DisplayInv` on the display's registers and a cycle alone. -/
structure Lcd.Valid (d : Lcd) (c : Nat) : Prop where
  phase   : DisplayPhase d c
  on      : d.next.isSome → d.lcdc.getLsbD 7 = true
  rows    : d.lineBuf.length ≤ Config.lcdHeight
  widths  : ∀ r ∈ d.lineBuf, r.length = Config.lcdWidth
  window  : d.winY ≤ d.lineBuf.length
  height  : d.image.length = Config.lcdHeight
  columns : ∀ r ∈ d.image, r.length = Config.lcdWidth

theorem displayInv_iff (s : State) : DisplayInv s ↔ s.lcd.Valid s.cycle :=
  ⟨fun ⟨p, o, r, w, y, h, k⟩ => ⟨p, o, r, w, y, h, k⟩, fun ⟨p, o, r, w, y, h, k⟩ => ⟨p, o, r, w, y, h, k⟩⟩

/-- What the invariant says of the rows, the window counter and the image does not depend on the other registers. -/
theorem Lcd.Valid.of_frame {d e : Lcd} {c c' : Nat} (h : d.Valid c) (phase : DisplayPhase e c')
    (on : e.next.isSome → e.lcdc.getLsbD 7 = true) (lineBuf : e.lineBuf = d.lineBuf) (winY : e.winY = d.winY)
    (image : e.image = d.image) : e.Valid c' where
  phase := phase
  on := on
  rows := lineBuf ▸ h.rows
  widths := lineBuf ▸ h.widths
  window := by rw [lineBuf, winY]; exact h.window
  height := image ▸ h.height
  columns := image ▸ h.columns

/-- The invariant ahead of a cycle holds ahead of every earlier one. -/
theorem Lcd.Valid.earlier {d : Lcd} {c c' : Nat} (h : d.Valid c) (le : c' ≤ c) : d.Valid c' :=
  h.of_frame (h.phase.of rfl rfl rfl rfl le) h.on rfl rfl rfl

/-- Where the mode machine is not due in a cycle, its next action is ahead of the next cycle. -/
theorem DisplayPhase.later {d : Lcd} {c : Nat} (h : DisplayPhase d c) (waiting : d.next ≠ some c) :
    DisplayPhase d (c + 1) := by
  have ahead {n : Nat} (due : d.next = some n) (le : c ≤ n) : c + 1 ≤ n :=
    Nat.lt_of_le_of_ne le fun e => waiting (by rw [due, e])
  cases h with
  | off idle mode line => exact .off idle mode line
  | scan n due le mode line rows => exact .scan n due (ahead due le) mode line rows
  | transfer n due le mode line rows => exact .transfer n due (ahead due le) mode line rows
  | hblank n due le mode line rows => exact .hblank n due (ahead due le) mode line rows
  | vblank n due le mode first last rows => exact .vblank n due (ahead due le) mode first last rows

/-! ### The mode machine's step keeps it -/

/-- The next line's number, below 255. -/
theorem ly_succ {ly : Byte} (h : ly.toNat < 255) : (ly + 1).toNat = ly.toNat + 1 := by
  rw [BitVec.toNat_add]
  simp only [BitVec.reduceToNat]
  omega

/-- A new line's MODE_2 is entered with the rows above it composed. -/
theorem enteredMode2_phase (d : Lcd) (line : Byte) (c : Nat) (visible : line.toNat ≤ 143)
    (rows : d.lineBuf.length = line.toNat) : DisplayPhase (d.enteredMode2 line c) (c + 1) :=
  .scan (c + 20) rfl (by omega) (Lcd.withMode_mode _ 2) visible rows

/-- A new frame begins with no row composed. -/
theorem Lcd.Valid.newFrame {d : Lcd} {c : Nat} (h : d.Valid c) (on : d.lcdc.getLsbD 7 = true) :
    (d.frameReset.enteredMode2 0 c).Valid (c + 1) where
  phase := enteredMode2_phase _ 0 c (by decide) rfl
  on _ := on
  rows := Nat.zero_le _
  widths _ mem := absurd mem List.not_mem_nil
  window := Nat.le_refl 0
  height := h.height
  columns := h.columns

/-- MODE_3 is entered with one more row, and the window counter at most one higher. -/
theorem Lcd.Valid.transfer {d : Lcd} {c : Nat} {row : Row} (h : d.Valid c) (on : d.lcdc.getLsbD 7 = true)
    (mode : d.mode = 2) (line : d.ly.toNat ≤ 143) (rows : d.lineBuf.length = d.ly.toNat)
    (width : row.length = Config.lcdWidth) : (d.moved c row).Valid (c + 1) := by
  have longer : (d.lineBuf ++ [row]).length = d.lineBuf.length + 1 := List.length_append
  rw [Lcd.moved_scan c row mode]
  refine ⟨.transfer (c + 43) rfl (by omega) (Lcd.withMode_mode d 3) line (longer.trans (by rw [rows]; rfl)),
    fun _ => on, ?rows, ?widths, ?window, h.height, h.columns⟩
  case rows =>
    rw [longer, rows]
    exact Nat.succ_le_succ line
  case widths =>
    intro r mem
    obtain old | new := List.mem_append.mp mem
    · exact h.widths r old
    · rw [List.mem_singleton.mp new]
      exact width
  case window =>
    have counter := h.window
    rw [longer]
    dsimp only
    split <;> omega

/-- MODE_1 is entered with the frame of 144 rows published. -/
theorem Lcd.Valid.publish {d : Lcd} {c : Nat} {row : Row} (h : d.Valid c) (on : d.lcdc.getLsbD 7 = true)
    (mode : d.mode = 0) (line : d.ly.toNat = 143) (rows : d.lineBuf.length = d.ly.toNat + 1) :
    (d.moved c row).Valid (c + 1) := by
  rw [line] at rows
  rw [Lcd.moved_lastLine c row mode line]
  exact ⟨.vblank (c + 114) rfl (by omega) (Lcd.withMode_mode _ 1) (Nat.le_refl 144) (by decide : 144 ≤ 153) rows,
    fun _ => on, h.rows, h.widths, h.window, rows, h.widths⟩

/-- Every transition keeps the invariant, and makes the mode machine due in a later cycle. -/
theorem Lcd.Valid.moved {d : Lcd} {c : Nat} {row : Row} (h : d.Valid c) (width : row.length = Config.lcdWidth)
    (running : d.next = some c) : (d.moved c row).Valid (c + 1) := by
  have on : d.lcdc.getLsbD 7 = true := h.on (by rw [running]; rfl)
  cases h.phase with
  | off idle => exact absurd (idle.symm.trans running) (Option.some_ne_none c).symm
  | scan _ _ _ mode line rows => exact h.transfer on mode line rows width
  | transfer _ _ _ mode line rows =>
    rw [Lcd.moved_transfer c row mode]
    exact h.of_frame (.hblank (c + 51) rfl (by omega) (Lcd.withMode_mode d 0) line rows) (fun _ => on) rfl rfl rfl
  | hblank _ _ _ mode line rows =>
    by_cases last : d.ly.toNat = 143
    · exact h.publish on mode last rows
    · rw [Lcd.moved_hblank c row mode (by omega)]
      have next := ly_succ (ly := d.ly) (by omega)
      exact h.of_frame (enteredMode2_phase d _ c (by omega) (by omega)) (fun _ => on) rfl rfl rfl
  | vblank _ _ _ mode first last rows =>
    by_cases final : d.ly.toNat = 153
    · rw [Lcd.moved_newFrame c row mode final]
      exact h.newFrame on
    · rw [Lcd.moved_vblank c row mode (by omega)]
      have next := ly_succ (ly := d.ly) (by omega)
      have line : ({ d with ly := d.ly + 1 } : Lcd).compared.ly = d.ly + 1 := rfl
      refine h.of_frame (.vblank (c + 114) rfl (by omega) ((Lcd.compared_mode _).trans mode) ?_ ?_ rows)
        (fun _ => on) rfl rfl rfl
      · exact line ▸ next ▸ Nat.le_succ_of_le first
      · exact line ▸ next ▸ (by omega : d.ly.toNat + 1 ≤ 153)

/-- The mode machine's step keeps the invariant, due or not, and with the display turned on or not. -/
theorem Lcd.Valid.stepped {d : Lcd} {c : Nat} {row : Row} (h : d.Valid c) (width : row.length = Config.lcdWidth) :
    (d.stepped c row).Valid (c + 1) := by
  unfold Lcd.stepped
  cases next : d.next with
  | none =>
    dsimp only
    split
    · exact h.newFrame ‹_›
    · exact h.of_frame (h.phase.later (by rw [next]; exact (Option.some_ne_none c).symm)) h.on rfl rfl rfl
  | some n =>
    dsimp only
    split
    · subst n
      exact h.moved width next
    · exact h.of_frame (h.phase.later (by rw [next]; exact fun e => ‹¬n = c› (Option.some.inj e))) h.on rfl rfl rfl

/-- The devices' steps keep the invariant, ahead of the next cycle. -/
theorem beforeCpu_valid {s : State} (h : s.lcd.Valid s.cycle) : (beforeCpu s).lcd.Valid (s.cycle + 1) := by
  have clock : (timerStep s).cycle = s.cycle := (timerStep_kept s).cycle
  have stepped := h.stepped (row := composedRow (timerStep s)) (composeLine_length _ _)
  rw [beforeCpu, lcdStep_lcd, timerStep_lcd, clock]
  exact stepped.of_frame (stepped.phase.of rfl rfl rfl rfl (Nat.le_refl _)) stepped.on rfl rfl rfl

/-! ### A bus write keeps it -/

/-- A write to STAT leaves the mode (R62). -/
theorem writeStat_mode (v : Byte) (s : State) : (writeStat v s).lcd.mode = s.lcd.mode := by
  unfold writeStat Lcd.mode
  dsimp only
  ext i hi
  obtain rfl | rfl : i = 0 ∨ i = 1 := by omega
  all_goals simp

/-- Turning the display off makes it idle, on line 0 in MODE_0 (R612). -/
theorem Lcd.Valid.powerOff {d : Lcd} {c : Nat} (h : d.Valid c) (v : Byte) :
    ({ ({ ({ d with lcdc := v } : Lcd).withMode 0 with ly := 0 } : Lcd).compared with next := none } : Lcd).Valid c :=
  h.of_frame (.off rfl ((Lcd.compared_mode _).trans (Lcd.withMode_mode _ 0)) rfl)
    (fun running => absurd running (by simp)) rfl rfl rfl

/-- Every bus write keeps the invariant, at any cycle. -/
theorem busWrite_valid (c : Nat) (a : Word) (v : Byte) (s : State) (h : s.lcd.Valid c) :
    (busWrite a v s).lcd.Valid c := by
  have kept {e : Lcd} (next : e.next = s.lcd.next) (mode : e.mode = s.lcd.mode) (ly : e.ly = s.lcd.ly)
      (lcdc : e.lcdc = s.lcd.lcdc) (lineBuf : e.lineBuf = s.lcd.lineBuf) (winY : e.winY = s.lcd.winY)
      (image : e.image = s.lcd.image) : e.Valid c :=
    h.of_frame (h.phase.of next mode ly lineBuf (Nat.le_refl c)) (by rw [next, lcdc]; exact h.on) lineBuf winY image
  cases busWrite_effect a v s with
  | lcdc v e =>
    rw [e, (writeLcdc_acted v s).lcd]
    split
    · exact h.of_frame (h.phase.of rfl rfl rfl rfl (Nat.le_refl c)) (fun _ => ‹_›) rfl rfl rfl
    · exact h.powerOff v
  | stat v e => rw [e]; exact kept rfl (writeStat_mode v s) rfl rfl rfl rfl rfl
  | lyc v e => rw [e, (writeLyc_acted v s).lcd]; exact kept rfl (Lcd.compared_mode _) rfl rfl rfl rfl rfl
  | dma v e => rw [e]; exact kept rfl rfl rfl rfl rfl rfl rfl
  | lcdCell d same e =>
    rw [e]
    exact kept same.next (by rw [Lcd.mode, same.stat]; rfl) same.ly same.lcdc same.lineBuf same.winY same.image
  | div e => rw [e, writeDiv, timerEdge_lcd]; exact h
  | tac v e => rw [e, writeTac, timerEdge_lcd]; exact h
  | nothing e | memory _ _ e | ie _ e | iflag _ e | ext _ _ e | joypad _ _ e | timerCell _ _ e => rw [e]; exact h

/-- Settles O16: the devices' steps establish the invariant ahead of the next cycle, no store disturbs it, and the
step ends in that cycle or, faulted, in the one before. -/
theorem displayInvKept : Obligations.DisplayInvKept := by
  intro s t h one
  by_cases ok : s.fault = none
  swap
  · rw [step_faulted ok] at one
    cases one
    exact h
  rw [displayInv_iff] at h ⊢
  have ahead : t.lcd.Valid (s.cycle + 1) :=
    step_reaches (J := fun u => u.lcd.Valid (s.cycle + 1)) (busWrite_valid _) (fun _ _ j => j)
      (fun _ _ same j => same.lcd ▸ j) ok (beforeCpu_valid h) one
  obtain ⟨-, clock⟩ | ⟨-, clock⟩ := step_cycle ok one
  · exact ahead.earlier (by omega)
  · exact ahead.earlier (by omega)

end Sys2Proof.Machine

/-! ## The clock step around an instruction (R510, R530 to R533, R540) -/

namespace Sys2Proof.Machine

/-- The end of a clock step on a unit of work that ended in `t`: the cycle counted, or the state before the unit with
the fault mark alone (R540). -/
theorem countCycle_settle (u t : State) :
    countCycle (settle u t) = match t.fault with
      | none => { t with cycle := t.cycle + 1 }
      | some f => { u with fault := some f } := by
  cases mark : t.fault with
  | none => simp only [settle_ok mark, countCycle_ok mark, mark]
  | some f => exact (congrArg countCycle (settle_fault mark)).trans (countCycle_fault (f := f) rfl)

/-- A processor that acts in this cycle, with no interrupt to take, executes what it fetches. -/
theorem cpuStep_executes {u t : State} {i : Instr} {rest : List Byte} (due : (wakeUp u).cpuNext = some u.cycle)
    (noInterrupt : takesInterrupt u = false) (read : fetch (wakeUp u) = .ok i rest)
    (run : exec i (wakeUp u) = .next t) : cpuStep u = .next (settle u t) := by
  unfold cpuStep
  rw [if_pos due, noInterrupt, if_neg Bool.false_ne_true, executeInstruction, read]
  exact congrArg (settleResult u) run

/-- A processor that takes an interrupt in this cycle dispatches the lowest pending one. -/
theorem cpuStep_dispatches {u : State} {i : Fin 5} (due : (wakeUp u).cpuNext = some u.cycle)
    (interrupt : takesInterrupt u = true) (lowest : lowestPending (pending (wakeUp u)) = some i) :
    cpuStep u = .next (settle u (dispatch i (wakeUp u))) := by
  unfold cpuStep
  rw [if_pos due, if_pos interrupt, dispatchLowest, lowest]
  rfl

/-- A processor that is not due in this cycle does nothing. -/
theorem cpuStep_waits {u : State} (waiting : (wakeUp u).cpuNext ≠ some u.cycle) : cpuStep u = .next u := if_neg waiting

/-- A halted processor with an enabled interrupt pending acts in this cycle (R530). -/
theorem wakeUp_woken {u : State} {c : Nat} (clock : u.cycle = c) (idle : u.cpuNext = none) (nonzero : pending u ≠ 0) :
    wakeUp u = { u with cpuNext := some c } := by
  unfold wakeUp wakes
  rw [idle, bne_iff_ne.mpr nonzero, clock]
  rfl

/-- A halted processor with nothing pending stays as it is. -/
theorem wakeUp_asleep {u : State} (nothing : pending u = 0) : wakeUp u = u := by
  unfold wakeUp wakes
  rw [nothing]
  exact if_neg (by simp)

/-- Settles O4. -/
theorem stepRunsDecoded : Obligations.StepRunsDecoded := by
  intro s i rest ok ⟨due, noInterrupt⟩ read
  obtain ⟨t, run, -⟩ := exec_ran i (beforeCpu s)
  have awake : wakeUp (beforeCpu s) = beforeCpu s := wakeUp_due due
  have unit : cpuStep (beforeCpu s) = .next (settle (beforeCpu s) t) :=
    cpuStep_executes (awake.symm ▸ due) noInterrupt (awake.symm ▸ read) (awake.symm ▸ run)
  refine ⟨(encode_of_decode read).1, t, run, ?_⟩
  rw [step_eq ok, unit]
  exact congrArg Host.Outcome.next (countCycle_settle _ t)

/-- Settles O5: the bytes fetched begin with the instruction's encoding, so they decode to it. -/
theorem stepRunsEncoded : Obligations.StepRunsEncoded := by
  intro s i ok executes wf bytes
  obtain ⟨rest, fetched⟩ := bytesFrom_prefix (beforeCpu s) (encode i) 3 (beforeCpu s).pc.toNat (encode_length i)
    fun k b h => by
      obtain ⟨inside, read⟩ := bytes k b h
      refine ⟨inside, ?_⟩
      rwa [BitVec.ofNat_add, BitVec.ofNat_toNat, BitVec.setWidth_eq]
  exact (stepRunsDecoded s i rest ok executes (fetched ▸ decodeEncode i rest wf)).2

/-! ### Interrupts and the halted state -/

/-- The lowest set bit among the five is the interrupt taken (R534a). -/
theorem lowestPending_eq {p : Byte} (i : Fin 5) (set : p.getLsbD i.val = true)
    (lower : ∀ j < i.val, p.getLsbD j = false) : lowestPending p = some i := by
  have skip (j : Nat) (lt : j < i.val) : ¬p.getLsbD j = true := Bool.eq_false_iff.mp (lower j lt)
  unfold lowestPending
  match i with
  | 0 => exact if_pos set
  | 1 => exact (if_neg (skip 0 (by decide))).trans (if_pos set)
  | 2 =>
    rw [if_neg (skip 0 (by decide)), if_neg (skip 1 (by decide))]
    exact if_pos set
  | 3 =>
    rw [if_neg (skip 0 (by decide)), if_neg (skip 1 (by decide)), if_neg (skip 2 (by decide))]
    exact if_pos set
  | 4 =>
    rw [if_neg (skip 0 (by decide)), if_neg (skip 1 (by decide)), if_neg (skip 2 (by decide)),
      if_neg (skip 3 (by decide))]
    exact if_pos set

/-- Among the five, an interrupt is pending when it is requested and enabled (R520). -/
theorem pending_bit (u : State) {j : Nat} (h : j < 5) : (pending u).getLsbD j = (u.ie &&& u.iflag).getLsbD j := by
  have mask : ∀ i : Fin 5, (0x1F : Byte).getLsbD i.val = true := by decide
  rw [pending, BitVec.getLsbD_and, mask ⟨j, h⟩, Bool.and_true]

/-- The mask of an interrupt's IF bit. -/
theorem ofNat_two_pow (i : Fin 5) : BitVec.ofNat 8 (2 ^ i.val) = 1#8 <<< i.val := by revert i; decide

/-- Settles O7: whether due or woken, the processor dispatches the lowest pending interrupt, from a state with the
same registers and devices. -/
theorem interruptDispatch : Obligations.InterruptDispatch := by
  intro s i ok set lower taken
  generalize hu : beforeCpu s = u at set lower taken ⊢
  have fault : u.fault = none := hu ▸ (beforeCpu_kept s).fault.trans ok
  have same := wakeUp_sameBus u
  have lowest : lowestPending (pending (wakeUp u)) = some i := by
    rw [pending, same.ie, same.iflag]
    exact lowestPending_eq i ((pending_bit u i.isLt).trans set) fun j lt =>
      (pending_bit u (lt.trans i.isLt)).trans (lower j lt)
  have nonzero : pending u ≠ 0 := fun none => by
    have clear := (pending_bit u i.isLt).trans set
    rw [none, BitVec.ofNat_eq_ofNat, BitVec.getLsbD_zero] at clear
    cases clear
  have acts : wakeUp u = { u with cpuNext := some u.cycle } := by
    obtain ⟨due, -⟩ | ⟨idle, -⟩ := taken
    · rw [wakeUp_due due, ← due]
    · exact wakeUp_woken rfl idle nonzero
  have interrupt : takesInterrupt u = true := by
    rw [takesInterrupt, wakes, bne_iff_ne.mpr nonzero]
    obtain ⟨-, ime⟩ | ⟨-, ime⟩ | ⟨idle, parameter⟩ := taken.imp_right (and_or_left.mp ·)
    · rw [ime]; rfl
    · rw [ime]; rfl
    · rw [idle, parameter]; exact Bool.or_true _
  have done : step s = .next (countCycle (settle u (dispatch i { u with cpuNext := some u.cycle }))) := by
    rw [step_eq ok, hu, cpuStep_dispatches (by rw [acts]) interrupt lowest, acts]
    rfl
  refine ⟨fun low => ?_, fun room => ?_⟩
  · rw [done, dispatch_faults (u := { u with cpuNext := some u.cycle }) low, countCycle_settle]
    rfl
  · have d : Dispatched i { u with cpuNext := some u.cycle } _ := dispatch_done room
    have ran := d.fault.trans fault
    have stored : StoredWord { u with iflag := u.iflag &&& ~~~(1#8 <<< i.val) } _ (u.sp - 2) u.pc :=
      d.store.of_from (by rw [← ofNat_two_pow]; exact ⟨rfl, rfl, rfl, rfl, rfl, rfl, rfl⟩)
    rw [settle_ok ran, countCycle_ok ran] at done
    exact ⟨_, done, d.ime, d.pc, d.sp, d.regs, d.cpuNext, congrArg (· + 1) d.cycle, ran, d.haltWake,
      stored.of_sameBus ⟨rfl, rfl, rfl, rfl, rfl, rfl, rfl⟩⟩

/-- Settles O8: the processor waits, or it is woken and executes what it fetches. -/
theorem haltAndWake : Obligations.HaltAndWake := by
  refine ⟨exec_halt, fun s ok waits => ?_, fun s i rest ok idle nonzero ime parameter read => ?_⟩
  · have kept := beforeCpu_kept s
    have waiting : (wakeUp (beforeCpu s)).cpuNext ≠ some (beforeCpu s).cycle := by
      obtain ⟨idle, nothing⟩ | ⟨n, due, other⟩ := waits
      · rw [wakeUp_asleep nothing, idle]
        exact (Option.some_ne_none _).symm
      · rw [wakeUp_waiting due, due]
        exact fun e => other (Option.some.inj e)
    rw [step_eq ok, cpuStep_waits waiting, ← kept.cycle]
    exact congrArg Host.Outcome.next (countCycle_ok (kept.fault.trans ok))
  · have clock := (beforeCpu_kept s).cycle
    have awake := wakeUp_woken clock idle nonzero
    obtain ⟨t, run, -⟩ := exec_ran i (wakeUp (beforeCpu s))
    have fetched : fetch (wakeUp (beforeCpu s)) = .ok i rest := by
      rw [fetch_congr (wakeUp_sameBus _) (by rw [awake])]
      exact read
    have unit : cpuStep (beforeCpu s) = .next (settle (beforeCpu s) t) :=
      cpuStep_executes (by rw [awake, clock]) (by simp [takesInterrupt, ime, parameter]) fetched run
    refine ⟨t, awake ▸ run, ?_⟩
    rw [step_eq ok, unit]
    exact congrArg Host.Outcome.next (countCycle_settle _ t)

/-! ### What every instruction may change -/

/-- What an instruction that answered `t` did: a fault and nothing else, or `Ran`. -/
theorem meant_of_exec {i : Instr} {s t : State} (run : exec i s = .next t) : Meant i s t := by
  obtain ⟨u, answer, meant⟩ := exec_ran i s
  obtain rfl : u = t := Host.Outcome.next.inj (answer.symm.trans run)
  exact meant

/-- Settles O10. -/
theorem onlyThreeWriteIme : Obligations.OnlyThreeWriteIme := by
  intro i s t run changed
  obtain ⟨f, rfl⟩ | ran := meant_of_exec run
  · exact absurd rfl changed
  · exact ran.ime.resolve_left changed

/-- Settles O11. -/
theorem onlyListedWriteFlags : Obligations.OnlyListedWriteFlags := by
  intro i s t run changed
  obtain ⟨f, rfl⟩ | ran := meant_of_exec run
  · exact absurd rfl changed
  · exact (ran.flags.resolve_left changed).1

/-- Settles O12: a processor that is due is not halted, so the instruction was not HALT. -/
theorem costOneToSix : Obligations.CostOneToSix := by
  intro i s t _ run noFault
  obtain ⟨f, rfl⟩ | ran := meant_of_exec run
  · exact absurd noFault (Option.some_ne_none f)
  refine ⟨ran.cycle, ?_⟩
  obtain ⟨k, atLeast, atMost, due⟩ | halted := ran.due
  · refine .inr ⟨?_, k, atLeast, atMost, due⟩
    rintro rfl
    obtain rfl : haltAt s = t := Host.Outcome.next.inj run
    cases due
  · exact .inl halted

/-- Settles O13: the devices keep the registers, and an instruction that changes F leaves its low nibble 0. -/
theorem flagsInvKept : Obligations.FlagsInvKept := by
  intro s t h one
  by_cases ok : s.fault = none
  swap
  · rw [step_faulted ok] at one
    cases one
    exact h
  obtain ⟨u, way, stepped⟩ := step_stepped ok
  obtain rfl : countCycle u = t := Host.Outcome.next.inj (stepped.symm.trans one)
  have counted : (countCycle u).regs = u.regs := by unfold countCycle; split <;> rfl
  have woken : (wakeUp (beforeCpu s)).regs = s.regs := by
    rw [← (beforeCpu_kept s).regs, wakeUp]
    split <;> rfl
  unfold FlagsInv at h ⊢
  rw [counted]
  cases way with
  | idle => rwa [(beforeCpu_kept s).regs]
  | faulted f => rwa [raiseFault_regs, (beforeCpu_kept s).regs]
  | dispatched i _ d => rwa [d.regs, woken]
  | ran i _ r =>
    obtain same | ⟨-, low⟩ := r.flags
    · rwa [same, woken]
    · exact low

/-- Settles O17: the display is off, the image blank, and every other value a literal. -/
theorem invariantsAtReset : Obligations.InvariantsAtReset := by
  have blank : State.reset.lcd.Valid State.reset.cycle :=
    ⟨.off rfl rfl rfl, fun on => absurd on (by decide), Nat.zero_le _, fun _ mem => absurd mem List.not_mem_nil,
      Nat.le_refl 0, List.length_replicate, fun _ mem => (blankImage_row mem).1⟩
  exact ⟨rfl, reset_memoryInv, rfl, ⟨rfl, Nat.le_refl _⟩, fun _ _ => Nat.zero_le _, (displayInv_iff _).mpr blank⟩

end Sys2Proof.Machine

/-! ## The bus and the display's registers (R101 to R123, R602, R606, R612) -/

namespace Sys2Proof.Machine

/-- Settles O48. -/
theorem storesReadBack : Obligations.StoresReadBack := fun s a v =>
  ⟨busRead_busWrite_same a v s, fun _ => busWrite_read_other a v s⟩

/-- A number below 65536 is its own bus address. -/
theorem toNat_ofNat_word {n : Nat} (h : n < 65536) : (BitVec.ofNat 16 n).toNat = n := Nat.mod_eq_of_lt h

/-- A cartridge without RAM answers nothing in its RAM window (R112). -/
theorem Cartridge.read_noRam {c : Cartridge} {a : Word} (absent : c.ramPresent = false) (h : 0xA000 ≤ a.toNat) :
    c.read a = none := by
  have below (hi : Word) (le : hi.toNat < 0xA000) : inRange a 0x0000 hi = false := inRange_eq_false.mpr (.inr (by omega))
  rw [Cartridge.read, below 0x00FF (by decide), below 0x7FFF (by decide), absent, Bool.and_false]
  rfl

/-- A cartridge without RAM takes nothing in its RAM window (R112). -/
theorem Cartridge.write_noRam {c : Cartridge} {a : Word} (v : Byte) (absent : c.ramPresent = false)
    (h : 0xA000 ≤ a.toNat) (k : a.toNat ≤ 0xBFFF) : c.write a v = c := by
  have below : inRange a 0x0000 0x7FFF = false := inRange_eq_false.mpr (.inr (show 0x7FFF < a.toNat by omega))
  have toggle : a ≠ 0xFF50 := word_ne (show a.toNat ≠ 0xFF50 by omega)
  rw [Cartridge.write, if_neg toggle, below, absent, Bool.and_false]
  rfl

/-- The echo is the work RAM, 0x2000 below (R111). -/
theorem echo_alias (s : State) (v : Byte) {k : Nat} (h : k < 7680) :
    busRead s (BitVec.ofNat 16 (0xE000 + k)) = busRead s (BitVec.ofNat 16 (0xC000 + k))
      ∧ busWrite (BitVec.ofNat 16 (0xE000 + k)) v s = busWrite (BitVec.ofNat 16 (0xC000 + k)) v s := by
  have echo := toNat_ofNat_word (n := 0xE000 + k) (by omega)
  have wram := toNat_ofNat_word (n := 0xC000 + k) (by omega)
  have key : 0xE000 + k - 0x2000 = 0xC000 + k := by omega
  constructor
  · rw [busRead_echo s (by omega) (by omega), busRead_wram s (by omega) (by omega), echo, wram, key]
  · rw [busWrite_echo s v (by omega) (by omega), busWrite_wram s v (by omega) (by omega), echo, wram, key]

/-- Settles O49: region by region. -/
theorem echoAndUnmapped : Obligations.EchoAndUnmapped := by
  intro s v
  refine ⟨fun k h => echo_alias s v h, fun a => ⟨busRead_ext s, fun h => busWrite_ext s v (by rwa [word_eq_iff] at h)⟩,
    busRead_joypad s, busWrite_joypad s v, ?nobody, ?toggle, fun rest => decode_noOperand rfl rest⟩
  case nobody =>
    rintro a (h | h | h | h | h | h | ⟨h, k, c, cart, absent⟩ | ⟨rfl, none⟩)
    case inr.inr.inr.inr.inr.inr.inl =>
      rw [busRead_ext s (.inr ⟨h, k⟩), busWrite_ext s v (.inr (.inl ⟨h, k⟩)), cart, Ext.read, Ext.write,
        Cartridge.read_noRam absent h, Cartridge.write_noRam v absent h k]
      exact ⟨rfl, congrArg (fun e => { s with ext := e }) cart.symm⟩
    case inr.inr.inr.inr.inr.inr.inr =>
      rw [busRead_joypad, busWrite_joypad, none]
      exact ⟨rfl, congrArg (fun j => { s with joypad := j }) none.symm⟩
    all_goals exact ⟨busRead_unmapped s (by omega), busWrite_nowhere s v (by omega)⟩
  case toggle => exact busRead_unmapped s (by simp)

/-- A page and offset 0 as a number. -/
theorem make16_zero (v : Byte) : make16 v 0 = BitVec.ofNat 16 (v.toNat * 256) := by
  apply BitVec.eq_of_toNat_eq
  have page := v.isLt
  rw [toNat_ofNat_word (by omega), make16, BitVec.toNat_append, BitVec.ofNat_eq_ofNat, BitVec.toNat_ofNat, Nat.zero_mod,
    Nat.or_zero, Nat.shiftLeft_eq]

/-- Settles O52: each register's write is a write to the display controller alone. -/
theorem displayRegisterWrites : Obligations.DisplayRegisterWrites := by
  intro s v
  refine ⟨fun on => ?lcdc, busWrite_stat s v, busWrite_scy s v, busWrite_scx s v, busWrite_nowhere s v (by simp), ?dma,
    busWrite_bgp s v, busWrite_obp0 s v, busWrite_obp1 s v, busWrite_wy s v, busWrite_wx s v⟩
  case lcdc =>
    rw [busWrite_lcdc]
    exact if_pos on
  case dma => rw [busWrite_dma, writeDma, make16_zero]

/-- The coincidence of the line counter: STAT's bit, and the request (R606). -/
theorem coincidence_eq (s : State) : coincidence s =
    { s with
      iflag := if s.lcd.ly = s.lcd.lyc ∧ s.lcd.stat.getLsbD 6 = true then s.iflag ||| 0x02 else s.iflag
      lcd := s.lcd.compared } := by
  unfold coincidence Lcd.compared
  dsimp only
  by_cases equal : s.lcd.ly = s.lcd.lyc
  · by_cases enabled : s.lcd.stat.getLsbD 6 = true
    · rw [if_pos equal, if_pos enabled, if_pos equal, if_pos ⟨equal, enabled⟩]
      rfl
    · rw [if_pos equal, if_neg enabled, if_pos equal, if_neg (fun h => enabled h.2)]
  · rw [if_neg equal, if_neg equal, if_neg (fun h => equal h.1)]

/-- Turning the display off, on STAT: MODE_0, with the enable bits kept and the coincidence bit recomputed (R612). -/
theorem stat_powerOff (x : Byte) :
    (x &&& 0xFC ||| (0 : BitVec 2).setWidth 8).getLsbD 6 = x.getLsbD 6
      ∧ (x &&& 0xFC ||| (0 : BitVec 2).setWidth 8) ||| 0x04 = (x &&& 0xFC) ||| 0x04
      ∧ (x &&& 0xFC ||| (0 : BitVec 2).setWidth 8) &&& 0xFB = x &&& 0xF8 := by
  revert x
  decide

/-- Settles O53: both writes end in the coincidence of the new registers. -/
theorem powerOffAndLineCompare : Obligations.PowerOffAndLineCompare := by
  intro s v
  refine ⟨fun off => ?_, ?_⟩
  · obtain ⟨enable, equal, differ⟩ := stat_powerOff s.lcd.stat
    rw [busWrite_lcdc, writeLcdc, if_neg (Bool.eq_false_iff.mp off), powerOff, setLy, coincidence_eq]
    simp only [Lcd.compared, Lcd.withMode, enable, equal, differ, eq_comm (a := (0 : Byte))]
  · rw [busWrite_lyc, writeLyc, coincidence_eq]
    rfl

/-! ## The quick-copy (R660) -/

/-- The step of a copy in progress. -/
theorem dmaStep_copies {s : State} (h : s.lcd.dmaIdx < 160) : dmaStep s =
    { s with
      mem := s.mem.write (0xFE00 + s.lcd.dmaIdx) (busRead s (dmaAddr s.lcd))
      lcd := { s.lcd with dmaIdx := s.lcd.dmaIdx + 1 } } := if_pos h

/-- The step without a copy. -/
theorem dmaStep_done {s : State} (h : 160 ≤ s.lcd.dmaIdx) : dmaStep s = s := if_neg (Nat.not_lt.mpr h)

/-- No bus read sees the quick-copy's index. -/
theorem busRead_dmaIdx (s : State) (k : Nat) (a : Word) :
    busRead { s with lcd := { s.lcd with dmaIdx := k } } a = busRead s a :=
  busRead_congr rfl rfl (fun _ => rfl) (fun _ => rfl) rfl rfl rfl

/-- A step of the copy changes the one byte of OAM at the index. -/
theorem dmaStep_other {s : State} {a : Word} (h : a.toNat ≠ 0xFE00 + s.lcd.dmaIdx) :
    busRead (dmaStep s) a = busRead s a := by
  by_cases more : s.lcd.dmaIdx < 160
  · have key := memKey_cases a
    rw [dmaStep_copies more]
    exact (busRead_dmaIdx _ _ a).trans (busRead_memWrite_other s _ (by omega))
  · rw [dmaStep_done (Nat.not_lt.mp more)]

/-- A step of the copy stores the byte the bus has at the source address. -/
theorem dmaStep_byte {s : State} (h : s.lcd.dmaIdx < 160) :
    busRead (dmaStep s) (BitVec.ofNat 16 (0xFE00 + s.lcd.dmaIdx)) = busRead s (dmaAddr s.lcd) := by
  have place := toNat_ofNat_word (n := 0xFE00 + s.lcd.dmaIdx) (by omega)
  rw [busRead_video _ (.inr (by omega)), place, dmaStep_copies h]
  exact Memory.read_write_same _ _ _

/-- A source page is a multiple of 256. -/
theorem lo8_eq_zero {w : Word} (h : lo8 w = 0) : w.toNat = (hi8 w).toNat * 256 := by
  have page := make16_zero (hi8 w)
  rw [← h, make16_hi_lo] at page
  have small := (hi8 w).isLt
  exact (congrArg BitVec.toNat page).trans (toNat_ofNat_word (by omega))

/-- The source sum does not wrap, for a page and an index of the copy (R77). -/
theorem dmaAddr_eq (d : Lcd) : dmaAddr d = BitVec.ofNat 16 (d.dmaSrc.toNat + d.dmaIdx) := by
  rw [dmaAddr, BitVec.ofNat_add, BitVec.ofNat_toNat, BitVec.setWidth_eq]

/-- After `k` steps of a copy from page `v`: the index is `k`, the first `k` bytes are copied, and no other byte has
changed, so the bytes still to be read are as before, even where the copy goes onto its own source. -/
theorem dmaStep_iterate {u : State} {v : Byte} (source : u.lcd.dmaSrc = BitVec.ofNat 16 (v.toNat * 256))
    (start : u.lcd.dmaIdx = 0) {k : Nat} (le : k ≤ 160) :
    (dmaStep^[k] u).lcd.dmaIdx = k ∧ (dmaStep^[k] u).lcd.dmaSrc = u.lcd.dmaSrc
      ∧ (∀ j < k, busRead (dmaStep^[k] u) (BitVec.ofNat 16 (0xFE00 + j))
          = busRead u (BitVec.ofNat 16 (v.toNat * 256 + j)))
      ∧ ∀ a : Word, a.toNat < 0xFE00 ∨ 0xFE00 + k ≤ a.toNat → busRead (dmaStep^[k] u) a = busRead u a := by
  induction k with
  | zero => exact ⟨start, rfl, fun j h => absurd h (Nat.not_lt_zero j), fun _ _ => rfl⟩
  | succ k ih =>
    obtain ⟨idx, src, copied, kept⟩ := ih (by omega)
    rw [Function.iterate_succ_apply']
    generalize dmaStep^[k] u = w at idx src copied kept ⊢
    have more : w.lcd.dmaIdx < 160 := by omega
    have page := v.isLt
    have at_source : dmaAddr w.lcd = BitVec.ofNat 16 (v.toNat * 256 + k) := by
      rw [dmaAddr_eq, idx, src, source, toNat_ofNat_word (by omega)]
    refine ⟨?_, ?_, fun j lt => ?_, fun a h => ?_⟩
    · rw [dmaStep_copies more, ← idx]
    · rw [dmaStep_copies more]
      exact src
    · obtain before | rfl : j < k ∨ j = k := by omega
      · rw [dmaStep_other (by rw [toNat_ofNat_word (by omega)]; omega)]
        exact copied j before
      · have byte := dmaStep_byte more
        rw [idx] at byte
        rw [byte, at_source]
        exact kept _ (by rw [toNat_ofNat_word (by omega)]; omega)
    · rw [dmaStep_other (by omega)]
      exact kept a (by omega)

/-- Settles O56: one step by its laws, and the whole copy by iterating them. -/
theorem quickCopy : Obligations.QuickCopy := by
  refine ⟨fun s v => ?_, fun w inv => ⟨fun more => ?_, fun done => dmaStep_done done.ge⟩⟩
  · have start := busWrite_dma s v
    rw [writeDma, make16_zero] at start
    have page := v.isLt
    obtain ⟨idx, -, copied, kept⟩ := dmaStep_iterate (u := busWrite 0xFF46 v s) (v := v) (by rw [start])
      (by rw [start]) (Nat.le_refl 160)
    exact ⟨by rw [start], by rw [start]; exact toNat_ofNat_word (by omega), by rw [start], copied,
      fun a h => kept a h, idx⟩
  · have page := (hi8 w.lcd.dmaSrc).isLt
    have source := lo8_eq_zero inv.1
    refine ⟨?_, by omega, fun a => dmaStep_other, ?_, ?_⟩
    · rw [dmaStep_byte more, dmaAddr_eq]
    · rw [dmaStep_copies more]
    · rw [dmaStep_copies more]

end Sys2Proof.Machine

/-! ## 8-bit loads and stores (R250 to R268) -/

namespace Sys2Proof.Machine

/-- One register loaded. -/
theorem load_done (s : State) (r : Reg8) (v : Byte) (len : Word) (cycles : Nat) :
    (advance len cycles (s.setReg8 r v)).reg8 r = v ∧ (advance len cycles (s.setReg8 r v)).regs.f = s.regs.f
      ∧ RegFrame s (advance len cycles (s.setReg8 r v)) [r] (s.pc + len) cycles :=
  ⟨by rw [advance_reg8, State.setReg8_same], by rw [advance_regs, State.setReg8_f], regFrame_reg s r v len cycles⟩

/-- Settles O19: the operand forms differ in the value, the length and the cost only. -/
theorem loadRegister : Obligations.LoadRegister := by
  intro r x s
  cases x with
  | reg q => exact ⟨_, exec_move s r q, load_done s r (s.reg8 q) 1 1⟩
  | imm n => exact ⟨_, exec_loadImm s r n, load_done s r n 2 2⟩
  | atHl => exact ⟨_, exec_loadHl s r, load_done s r (readHl s) 1 2⟩

/-- Settles O20. -/
theorem loadAccumulator : Obligations.LoadAccumulator := fun p s =>
  ⟨_, exec_loadA s p, load_done s .a (busRead s (p.addr s)) p.len p.cycles⟩

/-- A loaded, and HL moved to `w` afterwards. -/
theorem loadThenHl_done (s : State) (v : Byte) (w : Word) :
    (advance 1 2 ((s.setReg8 .a v).setHl w)).reg8 .a = v ∧ (advance 1 2 ((s.setReg8 .a v).setHl w)).hl = w
      ∧ (advance 1 2 ((s.setReg8 .a v).setHl w)).regs.f = s.regs.f
      ∧ RegFrame s (advance 1 2 ((s.setReg8 .a v).setHl w)) [.a, .h, .l] (s.pc + 1) 2 := by
  refine ⟨rfl, State.setHl_hl _ w, rfl, regFrame_regs _ _ _ fun q other => ?_⟩
  simp only [List.mem_cons, List.not_mem_nil, or_false, not_or] at other
  obtain ⟨a, h, l⟩ := other
  exact (State.setHl_other _ w h l).trans (State.setReg8_other s v a)

/-- Settles O21: HL is read before it is moved. -/
theorem loadAccumulatorStepping : Obligations.LoadAccumulatorStepping := fun s =>
  ⟨⟨_, exec_loadAInc s, loadThenHl_done s (readHl s) (s.hl + 1)⟩,
    ⟨_, exec_loadADec s, loadThenHl_done s (readHl s) (s.hl - 1)⟩⟩

/-- One byte stored. -/
theorem store_done (s : State) (a : Word) (v : Byte) (len : Word) (cycles : Nat) :
    (advance len cycles (busWrite a v s)).regs.f = s.regs.f
      ∧ StoreFrame s (advance len cycles (busWrite a v s)) [] (s.pc + len) cycles a v :=
  ⟨by rw [advance_regs, busWrite_regs], storeFrame_byte s a v len cycles⟩

/-- Settles O22. -/
theorem Settled.storeAtHl : Obligations.StoreAtHl := fun s =>
  ⟨fun r => ⟨_, exec_storeHl s r, store_done s s.hl (s.reg8 r) 1 2⟩,
    fun n => ⟨_, exec_storeHlImm s n, store_done s s.hl n 2 3⟩⟩

/-- Settles O23. -/
theorem storeAccumulator : Obligations.StoreAccumulator := fun p s =>
  ⟨_, exec_storeA s p, store_done s (p.addr s) (s.reg8 .a) p.len p.cycles⟩

/-- One byte stored, and HL moved to `w` afterwards. -/
theorem storeThenHl_done (s : State) (a : Word) (v : Byte) (w : Word) :
    (advance 1 2 ((busWrite a v s).setHl w)).hl = w
      ∧ (advance 1 2 ((busWrite a v s).setHl w)).regs.f = s.regs.f
      ∧ StoreFrame s (advance 1 2 ((busWrite a v s).setHl w)) [.h, .l] (s.pc + 1) 2 a v :=
  ⟨State.setHl_hl _ w, by rw [advance_regs, State.setHl_f, busWrite_regs], storeFrame_hl s a v w 1 2⟩

/-- Settles O24: the store leaves HL, which is moved after it. -/
theorem storeAccumulatorStepping : Obligations.StoreAccumulatorStepping := by
  intro s
  have hl : (writeHl s.regs.a s).hl = s.hl := State.hl_congr (busWrite_regs _ _ s)
  have inc := storeThenHl_done s s.hl s.regs.a ((writeHl s.regs.a s).hl + 1)
  have dec := storeThenHl_done s s.hl s.regs.a ((writeHl s.regs.a s).hl - 1)
  exact ⟨⟨_, exec_storeAInc s, inc.1.trans (congrArg (· + 1) hl), inc.2⟩,
    ⟨_, exec_storeADec s, dec.1.trans (congrArg (· - 1) hl), dec.2⟩⟩

end Sys2Proof.Machine

/-! ## 16-bit loads, sums with SP and the stack (R300 to R307, R380 to R383) -/

namespace Sys2Proof.Machine

/-- One 16-bit register written. -/
theorem pair_done (s : State) (p : Pair) (w : Word) (len : Word) (cycles : Nat) :
    (advance len cycles (s.setPair p w)).pair p = w ∧ (advance len cycles (s.setPair p w)).regs.f = s.regs.f
      ∧ PairFrame s (advance len cycles (s.setPair p w)) p (s.pc + len) cycles :=
  ⟨(State.pair_congr rfl rfl p).trans (State.setPair_pair s p w), State.setPair_f s p w,
    pairFrame_set s p w len cycles⟩

/-- Settles O25. -/
theorem loadPair : Obligations.LoadPair := fun s =>
  ⟨fun p n => ⟨_, exec_pairImm s p n, pair_done s p n 3 3⟩, ⟨_, exec_spHl s, pair_done s .sp s.hl 1 2⟩⟩

/-- Settles O37. -/
theorem incrementDecrementPair : Obligations.IncrementDecrementPair := fun p s =>
  ⟨⟨_, exec_incPair s p, pair_done s p (s.pair p + 1) 1 2⟩, ⟨_, exec_decPair s p, pair_done s p (s.pair p - 1) 1 2⟩⟩

/-- One 16-bit register written, and the flags with it. -/
theorem pairFlags_done {k : Nat} (pol : FlagPolicy) (x : Packed k) (s : State) (p : Pair) (w : Word) (len : Word)
    (cycles : Nat) :
    (advance len cycles (setFlags pol x (s.setPair p w))).pair p = w
      ∧ (advance len cycles (setFlags pol x (s.setPair p w))).regs.f = combine pol x s.regs.f
      ∧ PairFrame s (advance len cycles (setFlags pol x (s.setPair p w))) p (s.pc + len) cycles := by
  refine ⟨?pair, ?flags, pairFrame_flags pol x s p w len cycles⟩
  case pair =>
    have set := State.setPair_pair s p w
    cases p with
    | sp => rfl
    | bc | de | hl => exact set
  case flags => rw [advance_regs, setFlags_f, State.setPair_f]

/-- The low byte of a sign-extended byte is the byte (R10). -/
theorem signExtend_low (e : Byte) : (sext16 e).toNat % 16 = e.toNat % 16 ∧ (sext16 e).toNat % 256 = e.toNat := by
  revert e
  decide

/-- A 16-bit sum as the unit forms it. -/
theorem ofNat_toNat_add (l r : Word) : BitVec.ofNat 16 (l.toNat + r.toNat) = l + r := by
  rw [BitVec.ofNat_add, BitVec.ofNat_toNat, BitVec.ofNat_toNat, BitVec.setWidth_eq, BitVec.setWidth_eq]

/-- `add16L(SP, sext_16(e8))`: the sum, and the flags of the unsigned addition of the low bytes (R204, R230). -/
theorem add16L_sext (sp : Word) (e f : Byte) :
    (add16L sp (sext16 e)).value = sp + e.signExtend 16
      ∧ combine polAddSp (add16L sp (sext16 e)) f = flagByte false false (decide (sp.toNat % 16 + e.toNat % 16 > 15))
          (decide (sp.toNat % 256 + e.toNat > 255)) := by
  obtain ⟨nibble, byte⟩ := signExtend_low e
  refine ⟨ofNat_toNat_add sp (sext16 e), ?_⟩
  simp only [combine, polAddSp, add16L, Policy.apply, nibble, byte]

/-- Settles O27: both destinations take the unit's sum and its flags. -/
theorem stackPointerSums : Obligations.StackPointerSums := by
  intro e s
  obtain ⟨sum, flags⟩ := add16L_sext s.sp e s.regs.f
  have hl := pairFlags_done polAddSp (add16L s.sp (sext16 e)) s .hl (add16L s.sp (sext16 e)).value 2 3
  have sp := pairFlags_done polAddSp (add16L s.sp (sext16 e)) s .sp (add16L s.sp (sext16 e)).value 2 4
  exact ⟨⟨_, exec_hlSp s e, hl.1.trans sum, hl.2.1.trans flags, hl.2.2⟩,
    ⟨_, exec_addSp s e, sp.1.trans sum, sp.2.1.trans flags, sp.2.2⟩⟩

/-- Settles O36. -/
theorem Settled.addToHl : Obligations.AddToHl := by
  intro p s
  obtain ⟨hl, flags, frame⟩ := pairFlags_done polAddHl (add16H s.hl (s.pair p)) s .hl (add16H s.hl (s.pair p)).value 1 2
  exact ⟨_, exec_addHl s p, hl.trans (ofNat_toNat_add s.hl (s.pair p)), flags, frame⟩

/-- Settles O26: the address is checked before anything is stored. -/
theorem storeStackPointer : Obligations.StoreStackPointer := by
  intro n s
  refine ⟨fun inside => ?_, fun outside => ?_⟩
  · have stores : storeSp n s = advance 3 5 (memWrite16 n s.sp s) := if_neg (by simpa [secondByteOut] using inside)
    refine ⟨_, (exec_storeSp s n).trans (congrArg _ stores), by simp, ⟨?ends, by simp, by simp, ?store⟩⟩
    case ends => constructor <;> simp
    case store => exact (storedWord n s.sp s inside).of_sameBus ⟨rfl, rfl, rfl, rfl, rfl, rfl, rfl⟩
  · exact (exec_storeSp s n).trans (congrArg _ (if_pos (by simp [secondByteOut, outside])))

/-- A push that faults is the fault and nothing else. -/
theorem push_faulted {s : State} (low : s.sp = 0x0001) (t : State) :
    (if pushFaults s then raiseFault addressFault s else t) = addressFaulted s := if_pos (pushFaults_true low)

/-- A push that does not fault. -/
theorem push_passed {s : State} (room : s.sp ≠ 0x0001) (t : State) :
    (if pushFaults s then raiseFault addressFault s else t) = t := if_neg (by simp [pushFaults_false room])

/-- A pop that faults is the fault and nothing else. -/
theorem pop_faulted {s : State} (high : s.sp = 0xFFFF) (t : State) :
    (if popFaults s then raiseFault addressFault s else t) = addressFaulted s := if_pos (popFaults_true high)

/-- A pop that does not fault. -/
theorem pop_passed {s : State} (room : s.sp ≠ 0xFFFF) (t : State) :
    (if popFaults s then raiseFault addressFault s else t) = t := if_neg (by simp [popFaults_false room])

/-- Settles O28. -/
theorem Settled.pushPair : Obligations.PushPair := by
  intro q s
  refine ⟨fun room => ?_, fun low => (exec_push s q).trans (congrArg _ (push_faulted low _))⟩
  have pushes : Machine.pushPair q s = jumpTo (s.pc + 1) 4 (push16 (s.stackPair q) s) := by
    rw [Machine.pushPair, push_passed room, advance, push16_pc]
  exact ⟨_, (exec_push s q).trans (congrArg _ pushes), push_frame (s.stackPair q) s (s.pc + 1) 4 room⟩

/-- The low byte masked, as a mask of the word. -/
theorem make16_maskLow (h l : Byte) : make16 h (l &&& 0xF0) = make16 h l &&& 0xFFF0 := by
  have ones : h &&& 0xFF = h := BitVec.and_allOnes
  calc make16 h (l &&& 0xF0) = (h &&& 0xFF) ++ (l &&& 0xF0) := by rw [ones]; rfl
    _ = make16 h l &&& 0xFFF0 := BitVec.and_append.symm

/-- A stack pair written: the pair itself, AF without its low nibble, and the other pairs (R32, R33, R307). -/
theorem setStackPair_pairs (s : State) (q : StackPair) (w : Word) :
    (s.setStackPair q w).stackPair q = (if q = .af then w &&& 0xFFF0 else w)
      ∧ ∀ p, p ≠ q → (s.setStackPair q w).stackPair p = s.stackPair p := by
  constructor
  · cases q with
    | bc | de | hl => exact make16_hi_lo w
    | af => exact (make16_maskLow _ _).trans (congrArg (· &&& 0xFFF0) (make16_hi_lo w))
  · intro p other
    cases q with
    | bc => cases p with
      | bc => exact absurd rfl other
      | de | hl | af => rfl
    | de => cases p with
      | de => exact absurd rfl other
      | bc | hl | af => rfl
    | hl => cases p with
      | hl => exact absurd rfl other
      | bc | de | af => rfl
    | af => cases p with
      | af => exact absurd rfl other
      | bc | de | hl => rfl

/-- Settles O29. -/
theorem Settled.popPair : Obligations.PopPair := by
  intro q s
  refine ⟨fun room => ?_, fun high => (exec_pop s q).trans (congrArg _ (pop_faulted high _))⟩
  have pops : Machine.popPair q s = advance 1 3 ((popSp s).setStackPair q (popValue s)) := pop_passed room _
  obtain ⟨written, others⟩ := setStackPair_pairs (popSp s) q (popValue s)
  refine ⟨_, (exec_pop s q).trans (congrArg _ pops), ?sp, written, others, by simp, ?ends, SameBus.kept ?same⟩
  case sp => rw [advance_sp, State.setStackPair_sp, popSp]
  case ends => constructor <;> simp
  case same => constructor <;> simp

end Sys2Proof.Machine

/-! ## 8-bit arithmetic and logic (R330 to R362) -/

namespace Sys2Proof.Machine

/-- One register written, and the flags with it. -/
theorem regFlags_done {k : Nat} (pol : FlagPolicy) (w : Packed k) (s : State) (r : Reg8) (v : Byte) (len : Word)
    (cycles : Nat) :
    (advance len cycles (setFlags pol w (s.setReg8 r v))).reg8 r = v
      ∧ (advance len cycles (setFlags pol w (s.setReg8 r v))).regs.f = combine pol w s.regs.f
      ∧ RegFrame s (advance len cycles (setFlags pol w (s.setReg8 r v))) [r] (s.pc + len) cycles :=
  ⟨by rw [advance_reg8, setFlags_reg8, State.setReg8_same],
    by rw [advance_regs, setFlags_f, State.setReg8_f], regFrame_flags pol w s r v len cycles⟩

/-- Only the flags written. -/
theorem flags_done {k : Nat} (pol : FlagPolicy) (w : Packed k) (s : State) (len : Word) (cycles : Nat) :
    (advance len cycles (setFlags pol w s)).regs.f = combine pol w s.regs.f
      ∧ RegFrame s (advance len cycles (setFlags pol w s)) [] (s.pc + len) cycles :=
  ⟨by rw [advance_regs, setFlags_f], regFrame_onlyFlags pol w s len cycles⟩

/-- A byte stored, and the flags written. -/
theorem storeFlags_done {k : Nat} (pol : FlagPolicy) (w : Packed k) (s : State) (a : Word) (v : Byte) (len : Word)
    (cycles : Nat) :
    (advance len cycles (setFlags pol w (busWrite a v s))).regs.f = combine pol w s.regs.f
      ∧ StoreFrame s (advance len cycles (setFlags pol w (busWrite a v s))) [] (s.pc + len) cycles a v :=
  ⟨by rw [advance_regs, setFlags_f, busWrite_regs], storeFrame_flags pol w s a v len cycles⟩

/-- The three operand forms of `alu[y]` differ in the value, the length and the cost only (R330). -/
theorem exec_alu (op : AluOp) (x : Src8) (s : State) :
    exec (.alu op x) s = .next (advance x.len x.cycles (aluOn op (x.value s) s)) := by
  cases x with
  | reg r => exact exec_aluReg s op r
  | imm n => exact exec_aluImm s op n
  | atHl => exact exec_aluHl s op

/-- `alu[y]` in every operand form: A, the flags and the frame (R330, R225). -/
theorem alu_done (op : AluOp) (x : Src8) (s : State) :
    ∃ t, exec (.alu op x) s = .next t
      ∧ t.reg8 .a = aluValue op s.regs.a (x.value s) (flagC s.regs.f)
      ∧ t.regs.f = combine (aluPolicy op) (aluUnit op s.regs.a (x.value s) (flagC s.regs.f)) s.regs.f
      ∧ RegFrame s t [.a] (s.pc + x.len) x.cycles :=
  ⟨_, exec_alu op x s, regFlags_done ..⟩

/-- Settles O30: the unit's `add` is the law, with the carry-in 0 or the old Cy. -/
theorem addAndAddWithCarry : Obligations.AddAndAddWithCarry := by
  intro carry x s
  cases carry with
  | false => exact alu_done .add x s
  | true => exact alu_done .adc x s

/-- A byte made of an integer is 0 exactly for a multiple of 256. -/
theorem ofInt_eq_zero (n : Int) : BitVec.ofInt 8 n = 0 ↔ n % 256 = 0 := by
  rw [← BitVec.toNat_inj, BitVec.toNat_ofInt]
  simp only [BitVec.reduceToNat]
  omega

/-- The unit's `sub` with the flags as the law has them (R203, R230). -/
theorem combine_sub8 (l r : Byte) (b0 : Bool) (f : Byte) :
    combine polSub (sub8 l r b0) f = flagByte (decide (((l.toNat : Int) - r.toNat - b0.toNat) % 256 = 0)) true
      (decide (l.toNat % 16 < r.toNat % 16 + b0.toNat)) (decide (l.toNat < r.toNat + b0.toNat)) := by
  simp only [combine, polSub, sub8, Policy.apply, ofInt_eq_zero]

/-- Settles O31: `CP` leaves A, so no register changes. -/
theorem subtractAndCompare : Obligations.SubtractAndCompare := by
  intro x s
  refine ⟨fun borrow => ?_, ?_⟩
  · cases borrow with
    | false =>
      obtain ⟨t, run, a, flags, frame⟩ := alu_done .sub x s
      exact ⟨t, run, a, flags.trans (combine_sub8 ..), frame⟩
    | true =>
      obtain ⟨t, run, a, flags, frame⟩ := alu_done .sbc x s
      exact ⟨t, run, a, flags.trans (combine_sub8 ..), frame⟩
  · obtain ⟨t, run, a, flags, frame⟩ := alu_done .cp x s
    have zero : (((s.regs.a.toNat : Int) - (x.value s).toNat - false.toNat) % 256 = 0)
        ↔ s.regs.a.toNat = (x.value s).toNat := by
      have hl := s.regs.a.isLt
      have hr := (x.value s).isLt
      simp only [Bool.toNat_false]
      omega
    refine ⟨t, run, flags.trans ((combine_sub8 ..).trans (by simp only [zero]; rfl)),
      frame.ends, fun r _ => ?_, frame.sp, frame.ime, frame.bus⟩
    by_cases isA : r = .a
    · subst isA
      exact a
    · exact frame.regs r (by rwa [List.mem_singleton])

/-- Settles O32. -/
theorem logicOperations : Obligations.LogicOperations := fun x s =>
  ⟨alu_done .and x s, alu_done .xor x s, alu_done .or x s⟩

/-- Incrementing a byte: the value and the flags, Cy kept (R355, R356). -/
theorem add8_one (v f : Byte) :
    (add8 v 1 false).value = v + 1
      ∧ combine polInc (add8 v 1 false) f
        = flagByte (decide (v = 0xFF)) false (decide (v.toNat % 16 = 15)) (flagC f) := by
  have unit : ∀ v : Byte, (add8 v 1 false).value = v + 1 ∧ (add8 v 1 false).z = decide (v = 0xFF)
      ∧ (add8 v 1 false).h = decide (v.toNat % 16 = 15) := by decide
  obtain ⟨value, z, h⟩ := unit v
  exact ⟨value, by simp only [combine, polInc, Policy.apply, z, h]⟩

/-- Decrementing a byte: the value and the flags, Cy kept (R357, R358). -/
theorem sub8_one (v f : Byte) :
    (sub8 v 1 false).value = v - 1
      ∧ combine polDec (sub8 v 1 false) f
        = flagByte (decide (v = 0x01)) true (decide (v.toNat % 16 = 0)) (flagC f) := by
  have unit : ∀ v : Byte, (sub8 v 1 false).value = v - 1 ∧ (sub8 v 1 false).z = decide (v = 0x01)
      ∧ (sub8 v 1 false).h = decide (v.toNat % 16 = 0) := by decide
  obtain ⟨value, z, h⟩ := unit v
  exact ⟨value, by simp only [combine, polDec, Policy.apply, z, h]⟩

/-- Settles O33: the unit's value is written to the register or stored at HL. -/
theorem incrementDecrement : Obligations.IncrementDecrement := by
  intro s
  refine ⟨fun r => ?incReg, fun r => ?decReg, ?incHl, ?decHl⟩
  case incReg =>
    obtain ⟨value, flags⟩ := add8_one (s.reg8 r) s.regs.f
    obtain ⟨reg, f, frame⟩ := regFlags_done polInc (add8 (s.reg8 r) 1 false) s r _ 1 1
    exact ⟨_, exec_incReg s r, reg.trans value, f.trans flags, frame⟩
  case decReg =>
    obtain ⟨value, flags⟩ := sub8_one (s.reg8 r) s.regs.f
    obtain ⟨reg, f, frame⟩ := regFlags_done polDec (sub8 (s.reg8 r) 1 false) s r _ 1 1
    exact ⟨_, exec_decReg s r, reg.trans value, f.trans flags, frame⟩
  case incHl =>
    obtain ⟨value, flags⟩ := add8_one (readHl s) s.regs.f
    obtain ⟨f, frame⟩ := storeFlags_done polInc (add8 (readHl s) 1 false) s s.hl _ 1 3
    exact ⟨_, exec_incHl s, f.trans flags, value ▸ frame⟩
  case decHl =>
    obtain ⟨value, flags⟩ := sub8_one (readHl s) s.regs.f
    obtain ⟨f, frame⟩ := storeFlags_done polDec (sub8 (readHl s) 1 false) s s.hl _ 1 3
    exact ⟨_, exec_decHl s, f.trans flags, value ▸ frame⟩

/-- The correction of `bcdAdjust`, from the old flags and the old A (R210). -/
def decimalFix (v : Byte) (n h c : Bool) : Byte :=
  (if c || (!n && decide (v.toNat > 0x99)) then 0x60 else 0)
    + (if h || (!n && decide (v.toNat % 16 > 9)) then 0x06 else 0)

theorem bcdAdjust_value (v : Byte) (n h c : Bool) :
    (bcdAdjust v n h c).value = if n then v - decimalFix v n h c else v + decimalFix v n h c := rfl

/-- `DAA`: A, the flags and the frame (R359, R225). -/
theorem daa_done (s : State) :
    ∃ t, exec .daa s = .next t
      ∧ t.reg8 .a = (bcdAdjust s.regs.a (flagN s.regs.f) (flagH s.regs.f) (flagC s.regs.f)).value
      ∧ t.regs.f = combine polDaa (bcdAdjust s.regs.a (flagN s.regs.f) (flagH s.regs.f) (flagC s.regs.f)) s.regs.f
      ∧ RegFrame s t [.a] (s.pc + 1) 1 :=
  ⟨_, exec_daa s, regFlags_done ..⟩

/-- Settles O34: the four corrections are the four combinations of the two conditions. -/
theorem Settled.decimalAdjust : Obligations.DecimalAdjust := by
  intro s
  have low : (flagH s.regs.f || (!flagN s.regs.f && decide ((s.reg8 .a).toNat % 16 > 9))) = true
      ↔ flagH s.regs.f = true ∨ (flagN s.regs.f = false ∧ (s.reg8 .a).toNat % 16 > 9) := by simp
  have high : (flagC s.regs.f || (!flagN s.regs.f && decide ((s.reg8 .a).toNat > 0x99))) = true
      ↔ flagC s.regs.f = true ∨ (flagN s.regs.f = false ∧ (s.reg8 .a).toNat > 0x99) := by simp
  obtain ⟨t, run, a, f, frame⟩ := daa_done s
  refine ⟨t, decimalFix (s.reg8 .a) (flagN s.regs.f) (flagH s.regs.f) (flagC s.regs.f), run, ?_, ?_, ?_, ?_,
    a.trans (bcdAdjust_value ..), ?z, ?n, ?h, ?c, ?nibble, frame⟩
  case z =>
    rw [a, f, combine, flagZ_flagByte]
    exact decide_eq_true_iff
  case n => rw [f, combine, flagN_flagByte]; rfl
  case h => rw [f, combine, flagH_flagByte]; rfl
  case c =>
    rw [f, combine, flagC_flagByte]
    exact high
  case nibble => rw [f, combine, flagByte_low]
  · exact fun h l => by rw [decimalFix, if_pos (high.mpr h), if_pos (low.mpr l)]; rfl
  · exact fun h l => by rw [decimalFix, if_pos (high.mpr h), if_neg (mt low.mp l)]; rfl
  · exact fun h l => by rw [decimalFix, if_neg (mt high.mp h), if_pos (low.mpr l)]; rfl
  · exact fun h l => by rw [decimalFix, if_neg (mt high.mp h), if_neg (mt low.mp l)]; rfl

/-- `complement8` is the complement (R11). -/
theorem complement8_eq (v : Byte) : complement8 v = ~~~v := BitVec.xor_allOnes

/-- Settles O35: the flags by the policies of R230. -/
theorem complementAndCarry : Obligations.ComplementAndCarry := by
  intro s
  obtain ⟨a, f, frame⟩ := regFlags_done polCpl (noUnit false) s .a (complement8 s.regs.a) 1 1
  exact ⟨⟨_, exec_cpl s, a.trans (complement8_eq _), f, frame⟩,
    ⟨_, exec_scf s, flags_done polScf (noUnit false) s 1 1⟩,
    ⟨_, exec_ccf s, flags_done polCcf (noUnit (!flagC s.regs.f)) s 1 1⟩⟩

end Sys2Proof.Machine

/-! ## Rotates, shifts and bits (R400 to R426) -/

namespace Sys2Proof.Machine

/-- The unit's rotates and shifts, put together from bit fields, are those of the whole byte (R207, R208). -/
theorem rotUnit_law (op : RotOp) (v : Byte) (cy : Bool) :
    (rotUnit op v cy).value = (rotLaw op v cy).1 ∧ (rotUnit op v cy).c = (rotLaw op v cy).2 := by
  cases op <;> cases cy <;> revert v <;> decide

/-- The unit's other flags are those of a shifted value (R207). -/
theorem rotUnit_flags (op : RotOp) (v : Byte) (cy : Bool) :
    (rotUnit op v cy).z = decide ((rotUnit op v cy).value = 0) := by cases op <;> rfl

/-- Settles O38. -/
theorem rotateAccumulator : Obligations.RotateAccumulator := by
  intro left carry s op out
  have same : rotAOp left carry = op := by cases left <;> cases carry <;> rfl
  obtain ⟨value, bit⟩ := rotUnit_law op s.regs.a (flagC s.regs.f)
  obtain ⟨a, f, frame⟩ := regFlags_done polRotA (rotUnit op s.regs.a (flagC s.regs.f)) s .a _ 1 1
  have flags : combine polRotA (rotUnit op s.regs.a (flagC s.regs.f)) s.regs.f = flagByte false false false out.2 :=
    congrArg (flagByte false false false) bit
  exact ⟨_, (exec_rotA s left carry).trans (by rw [same]; rfl), a.trans value, f.trans flags, frame⟩

/-- The flags of a prefixed rotate or shift (R230): `SWAP`'s forced Cy is the law's. -/
theorem combine_rot (op : RotOp) (v : Byte) (cy : Bool) (f : Byte) :
    combine (rotPolicy op) (rotUnit op v cy) f
      = flagByte (decide ((rotLaw op v cy).1 = 0)) false false (rotLaw op v cy).2 := by
  obtain ⟨value, bit⟩ := rotUnit_law op v cy
  rw [← value, ← bit, ← rotUnit_flags]
  cases op <;> rfl

/-- Settles O39. -/
theorem rotateAndShift : Obligations.RotateAndShift := by
  intro op s
  refine ⟨fun r => ?_, ?_⟩
  · have value := (rotUnit_law op (s.reg8 r) (flagC s.regs.f)).1
    obtain ⟨reg, f, frame⟩ := regFlags_done (rotPolicy op) (rotUnit op (s.reg8 r) (flagC s.regs.f)) s r _ 2 2
    exact ⟨_, exec_rotReg s op r, reg.trans value, f.trans (combine_rot ..), frame⟩
  · have value := (rotUnit_law op (readHl s) (flagC s.regs.f)).1
    obtain ⟨f, frame⟩ := storeFlags_done (rotPolicy op) (rotUnit op (readHl s) (flagC s.regs.f)) s s.hl _ 2 4
    exact ⟨_, exec_rotHl s op, f.trans (combine_rot ..), value ▸ frame⟩

/-- Settles O40. -/
theorem testBit : Obligations.TestBit := fun b s =>
  ⟨fun r => ⟨_, exec_bitReg s b r, flags_done polBit (testBit8 (s.reg8 r) b) s 2 2⟩,
    ⟨_, exec_bitHl s b, flags_done polBit (testBit8 (readHl s) b) s 2 3⟩⟩

/-- The mask of bit `b`, and its complement (R422, R424). -/
theorem bitMask_eq (b : Fin 8) : bitMask b = 1#8 <<< b.val ∧ complement8 (bitMask b) = ~~~(1#8 <<< b.val) := by
  revert b
  decide

/-- Settles O41. -/
theorem resetAndSetBit : Obligations.ResetAndSetBit := by
  intro b s
  obtain ⟨mask, complement⟩ := bitMask_eq b
  rw [← complement, ← mask]
  exact ⟨fun r => ⟨⟨_, exec_resReg s b r, load_done s r _ 2 2⟩, ⟨_, exec_setReg s b r, load_done s r _ 2 2⟩⟩,
    ⟨_, exec_resHl s b, store_done s s.hl _ 2 4⟩, ⟨_, exec_setHl s b, store_done s s.hl _ 2 4⟩⟩

/-- The prefix row's meaning is that of the instruction its second byte names, which is two bytes long and raises no
fault (R174, R495). -/
theorem exec_decodePrefixed (op2 : Byte) (s : State) :
    exec (decodePrefixed op2) s = .next (prefixed op2 s) ∧ ∃ k, EndsAt s (prefixed op2 s) (s.pc + 2) k := by
  unfold decodePrefixed prefixed
  generalize (fieldX op2).toNat = k
  rcases k with _ | _ | _ | k <;> (cases r8 (fieldZ op2))
  · exact ⟨exec_rotReg s _ _, 2, (regFrame_flags ..).ends⟩
  · exact ⟨exec_rotHl s _, 4, (storeFrame_flags ..).ends⟩
  · exact ⟨exec_bitReg s _ _, 2, (regFrame_onlyFlags ..).ends⟩
  · exact ⟨exec_bitHl s _, 3, (regFrame_onlyFlags ..).ends⟩
  · exact ⟨exec_resReg s _ _, 2, (regFrame_reg ..).ends⟩
  · exact ⟨exec_resHl s _, 4, (storeFrame_byte ..).ends⟩
  · exact ⟨exec_setReg s _ _, 2, (regFrame_reg ..).ends⟩
  · exact ⟨exec_setHl s _, 4, (storeFrame_byte ..).ends⟩

/-- Settles O42. -/
theorem prefixRow : Obligations.PrefixRow := by
  intro op2 s
  obtain ⟨run, _, ends⟩ := exec_decodePrefixed op2 s
  exact ⟨_, _, decode_prefixed op2 [], (prefixed_law op2).1, run, exec_pre s op2, ends.fault, ends.pc⟩

end Sys2Proof.Machine

/-! ## Control transfers and NOP, DI, EI (R450 to R461, R490 to R494) -/

namespace Sys2Proof.Machine

/-- A jump, or going on to the next instruction: PC, the cost and nothing else. -/
theorem jump_done (s : State) (target : Word) (cycles : Nat) :
    (jumpTo target cycles s).regs.f = s.regs.f ∧ RegFrame s (jumpTo target cycles s) [] target cycles :=
  ⟨rfl, regFrame_none s target cycles⟩

/-- A conditional form whose condition holds. -/
theorem cond_taken {cc : Cond} {s : State} (holds : condLaw cc s.regs.f = true) (t u : State) :
    (if condHolds cc s then t else u) = t := if_pos ((condHolds_law cc s).trans holds)

/-- A conditional form whose condition fails. -/
theorem cond_notTaken {cc : Cond} {s : State} (fails : condLaw cc s.regs.f = false) (t u : State) :
    (if condHolds cc s then t else u) = u := if_neg (by rw [condHolds_law, fails]; exact Bool.false_ne_true)

/-- A conditional jump: one frame or the other, by the condition on the old F. -/
theorem jumpCond_done (cc : Cond) (s : State) (taken next : Word) (k m : Nat) :
    (if condHolds cc s then jumpTo taken k s else jumpTo next m s).regs.f = s.regs.f
      ∧ if condLaw cc s.regs.f = true then
          RegFrame s (if condHolds cc s then jumpTo taken k s else jumpTo next m s) [] taken k
        else RegFrame s (if condHolds cc s then jumpTo taken k s else jumpTo next m s) [] next m := by
  cases law : condLaw cc s.regs.f with
  | true =>
    rw [cond_taken law]
    exact jump_done s taken k
  | false =>
    rw [cond_notTaken law]
    exact jump_done s next m

/-- Settles O43. -/
theorem jumps : Obligations.Jumps := fun s =>
  ⟨fun n => ⟨_, exec_jp s n, jump_done s n 4⟩,
    fun cc n => ⟨_, exec_jpCond s cc n, jumpCond_done cc s n (s.pc + 3) 4 3⟩,
    ⟨_, exec_jpHl s, jump_done s s.hl 1⟩,
    fun e => ⟨_, exec_jr s e, jump_done s (relTarget e s) 3⟩,
    fun cc e => ⟨_, exec_jrCond s cc e, jumpCond_done cc s (relTarget e s) (s.pc + 2) 3 2⟩⟩

/-- A call that does not fault: the address of the next instruction pushed, and the jump. -/
theorem callTo_done {s : State} (room : s.sp ≠ 0x0001) (target len : Word) (cycles : Nat) :
    (callTo target len cycles s).sp = s.sp - 2
      ∧ StoreWordFrame s (callTo target len cycles s) target cycles (s.sp - 2) (s.pc + len) := by
  rw [callTo, push_passed room]
  exact push_frame (s.pc + len) s target cycles room

/-- Settles O44. -/
theorem calls : Obligations.Calls := by
  intro s
  refine ⟨fun room => ⟨fun n => ?_, fun cc n taken => ?_, fun y => ?_⟩, fun cc n skipped => ?_,
    fun low => ⟨fun n => ?_, fun cc n taken => ?_, fun y => ?_⟩⟩
  · exact ⟨_, exec_call s n, callTo_done room n 3 6⟩
  · exact ⟨_, (exec_callCond s cc n).trans (congrArg _ (cond_taken taken _ _)), callTo_done room n 3 6⟩
  · exact ⟨_, exec_rst s y, callTo_done room _ 1 4⟩
  · exact ⟨_, (exec_callCond s cc n).trans (congrArg _ (cond_notTaken skipped _ _)), jump_done s (s.pc + 3) 3⟩
  · exact (exec_call s n).trans (congrArg _ (push_faulted low _))
  · exact (exec_callCond s cc n).trans (congrArg _ ((cond_taken taken _ _).trans (push_faulted low _)))
  · exact (exec_rst s y).trans (congrArg _ (push_faulted low _))

/-- Settles O45: RETI is a return that sets IME afterwards. -/
theorem returns : Obligations.Returns := by
  intro s
  have returned (room : s.sp ≠ 0xFFFF) (k : Nat) : returnTo k s = jumpTo (popValue s) k (popSp s) := pop_passed room _
  have faulted (high : s.sp = 0xFFFF) (k : Nat) : returnTo k s = addressFaulted s := pop_faulted high _
  refine ⟨fun room => ⟨?ret, fun cc taken => ?retCond, ?reti⟩, fun cc skipped => ?skipped, fun high => ⟨?_, ?_, ?_⟩⟩
  case ret => exact ⟨_, (exec_ret s).trans (congrArg _ (returned room 4)), rfl, pop_frame s 4⟩
  case retCond =>
    exact ⟨_, (exec_retCond s cc).trans (congrArg _ ((cond_taken taken _ _).trans (returned room 5))), rfl, pop_frame s 5⟩
  case reti =>
    obtain ⟨ends, regs, sp, bus⟩ := pop_frame s 4
    exact ⟨_, (exec_reti s).trans (congrArg _ (pop_passed room _)), rfl, ⟨ends.pc, ends.cpuNext, ends.cycle, ends.fault,
      ends.haltWake⟩, regs, sp, SameBus.kept ⟨rfl, rfl, rfl, rfl, rfl, rfl, rfl⟩⟩
  case skipped =>
    exact ⟨_, (exec_retCond s cc).trans (congrArg _ (cond_notTaken skipped _ _)), jump_done s (s.pc + 1) 2⟩
  · exact (exec_ret s).trans (congrArg _ (faulted high 4))
  · exact (exec_reti s).trans (congrArg _ (pop_faulted high _))
  · exact fun cc taken => (exec_retCond s cc).trans (congrArg _ ((cond_taken taken _ _).trans (faulted high 5)))

/-- Settles O46. -/
theorem nopDiEi : Obligations.NopDiEi := fun s => ⟨⟨rfl, exec_nop s⟩, ⟨rfl, exec_di s⟩, rfl, exec_ei s⟩

end Sys2Proof.Machine

/-! ## The host's surface (R512, R513, R521) -/

namespace Sys2Proof.Machine

/-! ### `advance` -/

/-- The loop of R512 does not run a faulted machine. -/
theorem runCycles_faulted {s : State} (marked : s.fault ≠ none) (n : Nat) : runCycles n s = .next s := by
  cases n with
  | zero => rfl
  | succ n => exact if_pos (Option.isSome_iff_ne_none.mpr marked)

/-- The loop of R512 runs one clock step of a machine without a fault, and goes on. -/
theorem runCycles_succ {s u : State} (ok : s.fault = none) (one : step s = .next u) (n : Nat) :
    runCycles (n + 1) s = runCycles n u := by
  rw [runCycles, ok, if_neg (by simp), show tick s = .next u from one]

/-- The loop of R512: `n` steps without a fault, or fewer up to the one that faults. -/
theorem runCycles_reaches (n : Nat) (s : State) :
    ∃ k t, runCycles n s = .next t ∧ Reaches k s t
      ∧ (t.fault = none → k = n ∧ t.cycle = s.cycle + n)
      ∧ (t.fault ≠ none → t = s ∨ (t.cycle < s.cycle + n ∧ s.cycle + k = t.cycle + 1)) := by
  induction n generalizing s with
  | zero => exact ⟨0, s, rfl, .stay s, fun _ => ⟨rfl, rfl⟩, fun _ => .inl rfl⟩
  | succ n ih =>
    by_cases ok : s.fault = none
    swap
    · exact ⟨0, s, runCycles_faulted ok _, .stay s, fun none => absurd none ok, fun _ => .inl rfl⟩
    obtain ⟨u, one⟩ := step_next s
    rw [runCycles_succ ok one]
    obtain ⟨going, clock⟩ | ⟨marked, clock⟩ := step_cycle ok one
    · obtain ⟨k, t, run, reaches, fine, faulted⟩ := ih u
      refine ⟨k + 1, t, run, .tick ok one reaches, fun none => ?_, fun some => ?_⟩
      · obtain ⟨all, final⟩ := fine none
        omega
      · obtain rfl | ⟨early, steps⟩ := faulted some
        · exact absurd going some
        · exact .inr (by omega)
    · exact ⟨1, u, runCycles_faulted marked n, .tick ok one (.stay u), fun none => absurd none marked,
        fun _ => .inr (by omega)⟩

/-! ### `RunUntil` -/

/-- Nothing is run to reach a state in no steps. -/
theorem reaches_zero {s t : State} : Reaches 0 s t ↔ t = s :=
  ⟨fun | .stay _ => rfl, fun e => e ▸ .stay s⟩

/-- A first step is the step, of a machine without a fault. -/
theorem reaches_succ {s u t : State} {k : Nat} (ok : s.fault = none) (one : step s = .next u) :
    Reaches (k + 1) s t ↔ Reaches k u t := by
  refine ⟨fun | .tick _ first more => ?_, .tick ok one⟩
  obtain rfl := Host.Outcome.next.inj (one.symm.trans first)
  exact more

/-- Only a machine without a fault is run. -/
theorem Reaches.unfaulted {s t : State} {k : Nat} (h : Reaches (k + 1) s t) : s.fault = none := by
  cases h with
  | tick ok _ _ => exact ok

/-- The predicate fails in the first `k` states of the run. -/
def Unmet (pred : State → Bool) (k : Nat) (s : State) : Prop := ∀ j < k, ∀ u, Reaches j s u → pred u = false

theorem unmet_succ {pred : State → Bool} {k : Nat} {s u : State} (ok : s.fault = none) (one : step s = .next u) :
    Unmet pred (k + 1) s ↔ pred s = false ∧ Unmet pred k u := by
  constructor
  · intro h
    exact ⟨h 0 (Nat.zero_lt_succ k) s (.stay s), fun j lt w r => h (j + 1) (Nat.succ_lt_succ lt) w (.tick ok one r)⟩
  · rintro ⟨first, rest⟩ (_ | j) lt w r
    · rw [reaches_zero.mp r]
      exact first
    · exact rest j (Nat.lt_of_succ_lt_succ lt) w ((reaches_succ ok one).mp r)

/-- `RunUntil` stops where the predicate is met or the machine is faulted. -/
theorem runUntil_stops {pred : State → Bool} {s : State} (stop : pred s = true ∨ s.fault ≠ none) (fuel : Nat) :
    runUntil pred fuel s = some (.next s) := by
  rw [runUntil.eq_def]
  exact if_pos (by rwa [Bool.or_eq_true, Option.isSome_iff_ne_none])

/-- `RunUntil` without fuel, where it does not stop, has not ended. -/
theorem runUntil_zero {pred : State → Bool} {s : State} (unmet : pred s = false) (ok : s.fault = none) :
    runUntil pred 0 s = none := by
  rw [runUntil.eq_def, unmet, ok]
  rfl

/-- `RunUntil` takes a step where it does not stop. -/
theorem runUntil_succ {pred : State → Bool} {s u : State} (unmet : pred s = false) (ok : s.fault = none)
    (one : step s = .next u) (fuel : Nat) : runUntil pred (fuel + 1) s = runUntil pred fuel u := by
  rw [runUntil.eq_def, unmet, ok, show tick s = .next u from one]
  rfl

/-- Where `RunUntil` stops at once it reaches its own state, and no later one first. -/
theorem stop_iff {pred : State → Bool} {s t : State} (stop : pred s = true ∨ s.fault ≠ none) (fuel : Nat) :
    t = s ↔ ∃ k ≤ fuel, Reaches k s t ∧ (pred t = true ∨ t.fault ≠ none) ∧ Unmet pred k s := by
  constructor
  · rintro rfl
    exact ⟨0, Nat.zero_le _, .stay t, stop, fun j lt => absurd lt (Nat.not_lt_zero j)⟩
  · rintro ⟨k, -, reaches, -, unmet⟩
    cases k with
    | zero => exact reaches_zero.mp reaches
    | succ k =>
      have met := stop.resolve_right (fun marked => marked reaches.unfaulted)
      exact absurd met (Bool.eq_false_iff.mp (unmet 0 (Nat.zero_lt_succ k) s (.stay s)))

/-- `RunUntil` answers the first state that is faulted or meets the predicate. -/
theorem runUntil_some (pred : State → Bool) (fuel : Nat) (s t : State) :
    runUntil pred fuel s = some (.next t) ↔
      ∃ k ≤ fuel, Reaches k s t ∧ (pred t = true ∨ t.fault ≠ none) ∧ Unmet pred k s := by
  induction fuel generalizing s with
  | zero =>
    by_cases stop : pred s = true ∨ s.fault ≠ none
    · rw [runUntil_stops stop, ← stop_iff stop, Option.some.injEq, Host.Outcome.next.injEq, eq_comm]
    · obtain ⟨unmet, ok⟩ := not_or.mp stop
      rw [runUntil_zero (Bool.eq_false_iff.mpr unmet) (not_not.mp ok)]
      refine ⟨fun h => (Option.some_ne_none _ h.symm).elim, ?_⟩
      rintro ⟨k, le, reaches, end_, -⟩
      obtain rfl := Nat.le_zero.mp le
      rw [reaches_zero.mp reaches] at end_
      exact absurd end_ stop
  | succ fuel ih =>
    by_cases stop : pred s = true ∨ s.fault ≠ none
    · rw [runUntil_stops stop, ← stop_iff stop, Option.some.injEq, Host.Outcome.next.injEq, eq_comm]
    · obtain ⟨unmet, ok⟩ := not_or.mp stop
      replace unmet := Bool.eq_false_iff.mpr unmet
      replace ok := not_not.mp ok
      obtain ⟨u, one⟩ := step_next s
      rw [runUntil_succ unmet ok one, ih]
      constructor
      · rintro ⟨k, le, reaches, end_, before⟩
        exact ⟨k + 1, Nat.succ_le_succ le, .tick ok one reaches, end_, (unmet_succ ok one).mpr ⟨unmet, before⟩⟩
      · rintro ⟨_ | k, le, reaches, end_, before⟩
        · rw [reaches_zero.mp reaches] at end_
          exact absurd end_ stop
        · exact ⟨k, Nat.le_of_succ_le_succ le, (reaches_succ ok one).mp reaches, end_, ((unmet_succ ok one).mp before).2⟩

/-- Where `RunUntil` stops at once, no fuel is run unmet and unfaulted. -/
theorem stop_not_unmet {pred : State → Bool} {s : State} (stop : pred s = true ∨ s.fault ≠ none) (fuel : Nat) :
    ¬∃ t, Reaches fuel s t ∧ t.fault = none ∧ Unmet pred (fuel + 1) s := by
  rintro ⟨t, reaches, fine, unmet⟩
  have marked := stop.resolve_left (Bool.eq_false_iff.mp (unmet 0 (Nat.zero_lt_succ fuel) s (.stay s)))
  cases fuel with
  | zero => exact marked (reaches_zero.mp reaches ▸ fine)
  | succ fuel => exact marked reaches.unfaulted

/-- `RunUntil` has not ended exactly where the whole fuel is run without a fault and without meeting the predicate. -/
theorem runUntil_none (pred : State → Bool) (fuel : Nat) (s : State) :
    runUntil pred fuel s = none ↔ ∃ t, Reaches fuel s t ∧ t.fault = none ∧ Unmet pred (fuel + 1) s := by
  induction fuel generalizing s with
  | zero =>
    by_cases stop : pred s = true ∨ s.fault ≠ none
    · rw [runUntil_stops stop]
      exact ⟨fun h => (Option.some_ne_none _ h).elim, fun h => (stop_not_unmet stop 0 h).elim⟩
    · obtain ⟨unmet, ok⟩ := not_or.mp stop
      replace unmet := Bool.eq_false_iff.mpr unmet
      replace ok := not_not.mp ok
      obtain ⟨u, one⟩ := step_next s
      have first : Unmet pred 1 s :=
        (unmet_succ ok one).mpr ⟨unmet, fun j lt => absurd lt (Nat.not_lt_zero j)⟩
      exact ⟨fun _ => ⟨s, .stay s, ok, first⟩, fun _ => runUntil_zero unmet ok⟩
  | succ fuel ih =>
    by_cases stop : pred s = true ∨ s.fault ≠ none
    · rw [runUntil_stops stop]
      exact ⟨fun h => (Option.some_ne_none _ h).elim, fun h => (stop_not_unmet stop _ h).elim⟩
    · obtain ⟨unmet, ok⟩ := not_or.mp stop
      replace unmet := Bool.eq_false_iff.mpr unmet
      replace ok := not_not.mp ok
      obtain ⟨u, one⟩ := step_next s
      simp only [runUntil_succ unmet ok one, ih, reaches_succ ok one, unmet_succ ok one, unmet, true_and]

/-! ### Requests and changes between two clock steps -/

/-- The host's request with an index inside 0..4 (R521). -/
theorem hostRequestInterrupt_inside (s : State) {i : Nat} (h : i < 5) :
    hostRequestInterrupt i s = .next { s with iflag := s.iflag ||| (1#8 <<< i) } := by
  rw [← ofNat_two_pow ⟨i, h⟩]
  exact dif_pos h

/-- A change of Ext is seen in its windows only. -/
theorem hostSetExt_read (e : Ext) (s : State) {a : Word} (above : 0x8000 ≤ a.toNat)
    (outside : a.toNat < 0xA000 ∨ 0xBFFF < a.toNat) : busRead (hostSetExt e s) a = busRead s a :=
  busRead_congr rfl ((extRead_none _ above outside).trans (extRead_none s above outside).symm) (fun _ => rfl)
    (fun _ => rfl) rfl rfl rfl

/-- A change of Joypad is seen at 0xFF00 only. -/
theorem hostSetJoypad_read (j : Joypad) (s : State) {a : Word} (other : a ≠ 0xFF00) :
    busRead (hostSetJoypad j s) a = busRead s a :=
  busRead_congr rfl rfl (fun _ => rfl) (fun _ => rfl) rfl rfl ((if_neg other).trans (if_neg other).symm)

/-- Settles O60: the loop of R512 by induction on the cycles left, that of R513 by induction on the fuel. -/
theorem advanceReaches : Obligations.AdvanceReaches := by
  intro target s
  refine ⟨fun behind => if_pos behind, fun ahead => ?advance, fun pred fuel t => runUntil_some pred fuel s t,
    fun pred fuel => ?none, fun i outside => dif_neg (by omega), fun i inside => hostRequestInterrupt_inside s inside,
    fun e => ⟨rfl, fun a => hostSetExt_read e s⟩, fun j => ⟨rfl, fun a => hostSetJoypad_read j s⟩⟩
  case advance =>
    obtain ⟨k, t, run, reaches, fine, faulted⟩ := runCycles_reaches (target - s.cycle) s
    rw [Nat.add_sub_cancel' ahead] at fine faulted
    exact ⟨k, t, (if_neg (by omega)).trans run, reaches, fine, faulted⟩
  case none =>
    rw [runUntil_none]
    simp only [Unmet, Nat.lt_succ_iff]

end Sys2Proof.Machine

/-! ## The display's step: transitions, requests, frames and the quick-copy's byte (R601 to R627, R660) -/

namespace Sys2Proof.Machine

/-! ### The mode machine's step, without the copy -/

/-- Undoing the copy's own two changes gives the state the mode machine left. -/
theorem lcdStep_uncopied (s : State) :
    { lcdStep s with mem := s.mem, lcd := { (lcdStep s).lcd with dmaIdx := s.lcd.dmaIdx } } = modeStep s := by
  have mem : (modeStep s).mem = s.mem := (modeStep_acted s).mem
  have idx : (modeStep s).lcd.dmaIdx = s.lcd.dmaIdx := by
    rw [(modeStep_acted s).lcd]
    exact (Lcd.stepped_dma ..).2
  rw [lcdStep, ← mem, ← idx]
  by_cases more : (modeStep s).lcd.dmaIdx < 160
  · rw [dmaStep_copies more]
  · rw [dmaStep_done (Nat.not_lt.mp more)]

/-- The copy's part of every step (R601, R660). -/
theorem lcdStep_copy (s : State) : CopyStep s (lcdStep s) := by
  have acted := modeStep_acted s
  obtain ⟨src, idx⟩ := Lcd.stepped_dma s.lcd s.cycle (composedRow s)
  rw [← acted.lcd] at src idx
  have copies (more : s.lcd.dmaIdx < 160) := dmaStep_copies (s := modeStep s) (idx ▸ more)
  rw [idx, acted.mem] at copies
  refine ⟨fun more => ?byte, fun more => ?index, fun more a other => ?other, fun done => ?done⟩
  case byte =>
    rw [lcdStep_uncopied, lcdStep, copies more, ← src, ← idx, ← dmaAddr_eq]
    exact Memory.read_write_same _ _ _
  case index => rw [lcdStep, copies more]
  case other =>
    rw [lcdStep, copies more]
    exact Memory.read_write_other _ _ other
  case done =>
    rw [lcdStep, dmaStep_done (idx ▸ done)]
    exact ⟨idx, acted.mem⟩

/-! ### The display's registers other than those the mode machine writes -/

/-- The mode machine writes STAT, LY, its own clock, the window counter, the rows and the image, and no other
register of the display. -/
theorem Lcd.stepped_rest (d : Lcd) (c : Nat) (row : Row) : d.stepped c row =
    { d with
      stat := (d.stepped c row).stat, ly := (d.stepped c row).ly, next := (d.stepped c row).next
      winY := (d.stepped c row).winY, lineBuf := (d.stepped c row).lineBuf, image := (d.stepped c row).image } := by
  unfold Lcd.stepped Lcd.moved
  repeat' split
  all_goals rfl

/-- What the display's step changes, given the rows, the window counter and the image it leaves. -/
theorem lcdFrame_of {s : State} {d : Lcd} (stepped : s.lcd.stepped s.cycle (composedRow s) = d) :
    LcdFrame s (lcdStep s) d.lineBuf d.winY d.image := by
  have regs := lcdStep_lcd s
  have rest := Lcd.stepped_rest s.lcd s.cycle (composedRow s)
  rw [stepped] at regs rest
  refine ⟨by rw [regs], by rw [regs], by rw [regs], (lcdStep_rest s).trans ?_⟩
  rw [regs, rest]

/-! ### STAT after a transition -/

/-- STAT's coincidence bit and enable bits are no mode bits (R62). -/
theorem stat_withMode (d : Lcd) (m : BitVec 2) :
    (d.withMode m).stat.getLsbD 2 = d.stat.getLsbD 2 ∧ (d.withMode m).stat &&& 0xF8 = d.stat &&& 0xF8 := by
  have each : ∀ (x : Byte) (m : BitVec 2), (x &&& 0xFC ||| m.setWidth 8).getLsbD 2 = x.getLsbD 2
      ∧ (x &&& 0xFC ||| m.setWidth 8) &&& 0xF8 = x &&& 0xF8 := by decide
  exact each d.stat m

/-- The coincidence bit is the comparison, and the enable bits are as before (R606). -/
theorem stat_compared (d : Lcd) :
    d.compared.stat.getLsbD 2 = decide (d.ly = d.lyc) ∧ d.compared.stat &&& 0xF8 = d.stat &&& 0xF8 := by
  have each : ∀ x : Byte, ((x ||| 0x04).getLsbD 2 = true ∧ (x ||| 0x04) &&& 0xF8 = x &&& 0xF8)
      ∧ (x &&& 0xFB).getLsbD 2 = false ∧ (x &&& 0xFB) &&& 0xF8 = x &&& 0xF8 := by decide
  obtain ⟨equal, differ⟩ := each d.stat
  unfold Lcd.compared
  dsimp only
  by_cases h : d.ly = d.lyc
  · rw [if_pos h, decide_eq_true h]
    exact equal
  · rw [if_neg h, decide_eq_false h]
    exact differ

/-- Writing the mode that is there changes nothing. -/
theorem Lcd.withMode_self (d : Lcd) : d.withMode d.mode = d := by
  have each : ∀ x : Byte, x &&& 0xFC ||| (x.extractLsb' 0 2).setWidth 8 = x := by decide
  exact congrArg (fun x => { d with stat := x }) (each d.stat)

/-- A transition that keeps the line. -/
theorem lcdMoved_mode {s : State} {m : BitVec 2} {wait : Nat} {d : Lcd}
    (stepped : s.lcd.stepped s.cycle (composedRow s) = d) (stat : d.stat = (s.lcd.withMode m).stat)
    (line : d.ly = s.lcd.ly) (due : d.next = some (s.cycle + wait)) : LcdMoved s (lcdStep s) m none wait := by
  have regs := lcdStep_lcd s
  obtain ⟨bit, enables⟩ := stat_withMode s.lcd m
  rw [stepped] at regs
  constructor
  case mode => rw [regs, Lcd.mode, stat]; exact Lcd.withMode_mode s.lcd m
  case line => rw [regs]; exact line
  case due => rw [regs]; exact due
  case equal => intro n none; cases none
  case keep => rw [regs, stat]; exact fun _ => bit
  case enables => rw [regs, stat]; exact enables

/-- A transition to a line and a mode. -/
theorem lcdMoved_line {s : State} {n : Byte} {m : BitVec 2} {wait : Nat} {d : Lcd}
    (stepped : s.lcd.stepped s.cycle (composedRow s) = d)
    (stat : d.stat = (({ s.lcd with ly := n } : Lcd).compared.withMode m).stat) (line : d.ly = n)
    (due : d.next = some (s.cycle + wait)) : LcdMoved s (lcdStep s) m (some n) wait := by
  have regs := lcdStep_lcd s
  obtain ⟨bit, enables⟩ := stat_withMode ({ s.lcd with ly := n } : Lcd).compared m
  obtain ⟨equal, same⟩ := stat_compared { s.lcd with ly := n }
  rw [stepped] at regs
  constructor
  case mode => rw [regs, Lcd.mode, stat]; exact Lcd.withMode_mode _ m
  case line => rw [regs]; exact line
  case due => rw [regs]; exact due
  case equal =>
    rintro _ ⟨⟩
    rw [regs, stat]
    exact bit.trans equal
  case keep => intro none; cases none
  case enables => rw [regs, stat]; exact enables.trans same

/-! ### The requests -/

/-- Requests that come together set the bit once. -/
theorem request_or (p q : Prop) [Decidable p] [Decidable q] :
    (if p then (0x02 : Byte) else 0) ||| (if q then 0x02 else 0) = if p ∨ q then 0x02 else 0 := by
  by_cases hp : p <;> by_cases hq : q <;> simp [hp, hq]

/-- An entry into a mode asks for the status interrupt by STAT's enable bits alone. -/
theorem modeRequests_congr {d e : Lcd} (enables : e.stat &&& 0xF8 = d.stat &&& 0xF8) (m : BitVec 2) :
    e.modeRequests m = d.modeRequests m := by
  have bit (k : Nat) (mask : (0xF8 : Byte).getLsbD k = true) : e.stat.getLsbD k = d.stat.getLsbD k := by
    have same := congrArg (fun x => BitVec.getLsbD x k) enables
    simpa only [BitVec.getLsbD_and, mask, Bool.and_true] using same
  rw [Lcd.modeRequests, Lcd.modeRequests, bit 3 (by decide), bit 4 (by decide), bit 5 (by decide)]

/-- The request of an entry into a mode (R605). -/
theorem lcdRequest_mode (s : State) (m : BitVec 2) :
    lcdRequest s none (some m) = if s.lcd.modeRequests m then 0x02 else 0 := by
  simp [lcdRequest, Lcd.modeRequests, or_assoc]

/-- The request of a line and an entry into a mode (R605, R606). -/
theorem lcdRequest_line_mode (s : State) (n : Byte) (m : BitVec 2) : lcdRequest s (some n) (some m)
    = (if n = s.lcd.lyc ∧ s.lcd.stat.getLsbD 6 = true then 0x02 else 0)
      ||| (if s.lcd.modeRequests m then 0x02 else 0) := by
  rw [request_or]
  simp [lcdRequest, Lcd.modeRequests, or_assoc]

/-- The request of a line (R606). -/
theorem lcdRequest_line (s : State) (n : Byte) : lcdRequest s (some n) none
    = if n = s.lcd.lyc ∧ s.lcd.stat.getLsbD 6 = true then 0x02 else 0 := by
  simp [lcdRequest]

/-- IF after an update of the line and an entry into a mode. -/
theorem setMode_setLy_iflag (n : Byte) (m : BitVec 2) (s : State) :
    (setMode m (setLy n s)).iflag = s.iflag ||| lcdRequest s (some n) (some m) := by
  have enables : (setLy n s).lcd.stat &&& 0xF8 = s.lcd.stat &&& 0xF8 := by
    rw [(setLy_acted n s).lcd]
    exact (stat_compared { s.lcd with ly := n }).2
  rw [setMode_iflag, setLy_iflag, modeRequests_congr enables, lcdRequest_line_mode, BitVec.or_assoc]

/-- MODE_3 has no enable bit (R605). -/
theorem modeRequests_three (d : Lcd) : d.modeRequests 3 = false := rfl

/-- MODE_3 is entered without a request, so the row is composed from the registers with the new mode alone. -/
theorem setMode_three (s : State) : setMode 3 s = { s with lcd := { s.lcd with stat := s.lcd.stat ||| 3 } } := by
  have each : ∀ x : Byte, x &&& 0xFC ||| (3 : BitVec 2).setWidth 8 = x ||| 3 := by decide
  rw [setMode, modeRequests_three]
  exact congrArg (fun x => { s with lcd := { s.lcd with stat := x } }) (each s.lcd.stat)

/-- The window is active on the line (R640), as numbers. -/
theorem windowActive_iff (d : Lcd) (line : Nat) : windowActive d line = true
    ↔ d.lcdc.getLsbD 5 = true ∧ d.wx.toNat < 167 ∧ d.wy.toNat ≤ line := by
  have left : windowLeft d < Config.lcdWidth ↔ d.wx.toNat < 167 := by
    unfold windowLeft Config.lcdWidth
    omega
  simp [windowActive, left, and_assoc]

/-! ### The whole step -/

/-- Due, the mode machine makes its transition. -/
theorem modeStep_due {s : State} (due : s.lcd.next = some s.cycle) :
    modeStep s = modeTransition s ∧ s.lcd.stepped s.cycle (composedRow s) = s.lcd.moved s.cycle (composedRow s) := by
  rw [modeStep, Lcd.stepped, due]
  exact ⟨if_pos rfl, if_pos rfl⟩

/-- Idle with LCDC bit 7 set, the mode machine enters a new frame (R613). -/
theorem modeStep_powerOn {s : State} (idle : s.lcd.next = none) (on : s.lcd.lcdc.getLsbD 7 = true) :
    modeStep s = enterMode2 0 (resetFrame s)
      ∧ s.lcd.stepped s.cycle (composedRow s) = s.lcd.frameReset.enteredMode2 0 s.cycle := by
  rw [modeStep, Lcd.stepped, idle]
  exact ⟨if_pos on, if_pos on⟩

/-- Not due, and not turned on, the mode machine changes nothing. -/
theorem modeStep_waits {s : State} (waits : (s.lcd.next = none ∧ s.lcd.lcdc.getLsbD 7 = false)
    ∨ ∃ n, s.lcd.next = some n ∧ n ≠ s.cycle) : modeStep s = s := by
  obtain ⟨idle, off⟩ | ⟨n, ahead, other⟩ := waits
  · rw [modeStep, idle]
    exact if_neg (Bool.eq_false_iff.mp off)
  · rw [modeStep, ahead]
    exact if_neg other

/-- A new frame: line 0, MODE_2, with the frame state reset (R613, R626). -/
theorem newFrame_moved {s : State} (action : modeStep s = enterMode2 0 (resetFrame s))
    (stepped : s.lcd.stepped s.cycle (composedRow s) = s.lcd.frameReset.enteredMode2 0 s.cycle) :
    LcdMoved s (lcdStep s) 2 (some 0) 20
      ∧ (lcdStep s).iflag = s.iflag ||| lcdRequest s (some 0) (some 2)
      ∧ LcdFrame s (lcdStep s) [] 0 s.lcd.image := by
  refine ⟨lcdMoved_line stepped rfl rfl rfl, ?_, (lcdFrame_of stepped :)⟩
  rw [lcdStep_iflag, action]
  exact setMode_setLy_iflag 0 2 (resetFrame s)

section due
variable {s : State} (due : s.lcd.next = some s.cycle)
include due

theorem scan_moved (mode : s.lcd.mode = 2) :
    LcdMoved s (lcdStep s) 3 none 43 ∧ (lcdStep s).iflag = s.iflag
      ∧ LcdFrame s (lcdStep s)
          (s.lcd.lineBuf ++ [composeLine { s with lcd := { s.lcd with stat := s.lcd.stat ||| 3 } } s.lcd.ly.toNat])
          (if s.lcd.lcdc.getLsbD 5 = true ∧ s.lcd.wx.toNat < 167 ∧ s.lcd.wy.toNat ≤ s.lcd.ly.toNat
            then s.lcd.winY + 1 else s.lcd.winY) s.lcd.image := by
  obtain ⟨action, stepped⟩ := modeStep_due due
  have regs := stepped.trans (Lcd.moved_scan s.cycle (composedRow s) mode)
  refine ⟨lcdMoved_mode regs rfl rfl rfl, ?_, ?_⟩
  · have enter : modeTransition s = enterMode3 s := by rw [modeTransition, mode]; rfl
    rw [lcdStep_iflag, action, enter]
    exact (setMode_iflag 3 s).trans (by rw [modeRequests_three]; simp)
  · have frame := lcdFrame_of regs
    simp only [windowActive_iff, composedRow, setMode_three] at frame
    exact frame

theorem transfer_moved (mode : s.lcd.mode = 3) :
    LcdMoved s (lcdStep s) 0 none 51
      ∧ (lcdStep s).iflag = s.iflag ||| lcdRequest s none (some 0)
      ∧ LcdFrame s (lcdStep s) s.lcd.lineBuf s.lcd.winY s.lcd.image := by
  obtain ⟨action, stepped⟩ := modeStep_due due
  have regs := stepped.trans (Lcd.moved_transfer s.cycle (composedRow s) mode)
  have enter : modeTransition s = enterMode0 s := by rw [modeTransition, mode]; rfl
  refine ⟨lcdMoved_mode regs rfl rfl rfl, ?_, (lcdFrame_of regs :)⟩
  rw [lcdStep_iflag, action, enter, lcdRequest_mode]
  exact setMode_iflag 0 s

theorem hblank_moved (mode : s.lcd.mode = 0) (line : s.lcd.ly.toNat < 143) :
    LcdMoved s (lcdStep s) 2 (some (s.lcd.ly + 1)) 20
      ∧ (lcdStep s).iflag = s.iflag ||| lcdRequest s (some (s.lcd.ly + 1)) (some 2)
      ∧ LcdFrame s (lcdStep s) s.lcd.lineBuf s.lcd.winY s.lcd.image := by
  obtain ⟨action, stepped⟩ := modeStep_due due
  have regs := stepped.trans (Lcd.moved_hblank s.cycle (composedRow s) mode line)
  have enter : modeTransition s = enterMode2 (s.lcd.ly + 1) s := by
    rw [modeTransition, mode]
    exact if_pos line
  refine ⟨lcdMoved_line regs rfl rfl rfl, ?_, (lcdFrame_of regs :)⟩
  rw [lcdStep_iflag, action, enter]
  exact setMode_setLy_iflag _ 2 s

theorem lastLine_moved (mode : s.lcd.mode = 0) (line : s.lcd.ly = 143) :
    LcdMoved s (lcdStep s) 1 (some 144) 114
      ∧ (lcdStep s).iflag = s.iflag ||| lcdRequest s (some 144) (some 1) ||| 0x01
      ∧ LcdFrame s (lcdStep s) s.lcd.lineBuf s.lcd.winY s.lcd.lineBuf := by
  have number : s.lcd.ly.toNat = 143 := congrArg BitVec.toNat line
  obtain ⟨action, stepped⟩ := modeStep_due due
  have regs := stepped.trans (Lcd.moved_lastLine s.cycle (composedRow s) mode number)
  have enter : modeTransition s = enterMode1 s := by
    rw [modeTransition, mode]
    exact (if_neg (by omega)).trans (if_pos number)
  refine ⟨lcdMoved_line regs rfl rfl rfl, ?_, (lcdFrame_of regs :)⟩
  rw [lcdStep_iflag, action, enter]
  exact congrArg (· ||| 0x01) (setMode_setLy_iflag 144 1 s)

theorem vblank_moved (mode : s.lcd.mode = 1) (line : s.lcd.ly.toNat < 153) :
    LcdMoved s (lcdStep s) 1 (some (s.lcd.ly + 1)) 114
      ∧ (lcdStep s).iflag = s.iflag ||| lcdRequest s (some (s.lcd.ly + 1)) none
      ∧ LcdFrame s (lcdStep s) s.lcd.lineBuf s.lcd.winY s.lcd.image := by
  obtain ⟨action, stepped⟩ := modeStep_due due
  have regs := stepped.trans (Lcd.moved_vblank s.cycle (composedRow s) mode line)
  have enter : modeTransition s = lcdNextIn Config.lineCycles (setLy (s.lcd.ly + 1) s) := by
    rw [modeTransition, mode]
    exact if_pos line
  have same : ({ s.lcd with ly := s.lcd.ly + 1 } : Lcd).compared.withMode 1
      = ({ s.lcd with ly := s.lcd.ly + 1 } : Lcd).compared := by
    have self := Lcd.withMode_self ({ s.lcd with ly := s.lcd.ly + 1 } : Lcd).compared
    rwa [Lcd.compared_mode, show ({ s.lcd with ly := s.lcd.ly + 1 } : Lcd).mode = 1 from mode] at self
  refine ⟨lcdMoved_line regs (by rw [same]) rfl rfl, ?_, (lcdFrame_of regs :)⟩
  rw [lcdStep_iflag, action, enter, lcdRequest_line]
  exact setLy_iflag _ s

theorem lastBlank_moved (mode : s.lcd.mode = 1) (line : s.lcd.ly = 153) :
    LcdMoved s (lcdStep s) 2 (some 0) 20
      ∧ (lcdStep s).iflag = s.iflag ||| lcdRequest s (some 0) (some 2)
      ∧ LcdFrame s (lcdStep s) [] 0 s.lcd.image := by
  have number : s.lcd.ly.toNat = 153 := congrArg BitVec.toNat line
  obtain ⟨action, stepped⟩ := modeStep_due due
  have enter : modeTransition s = enterMode2 0 (resetFrame s) := by
    rw [modeTransition, mode]
    exact (if_neg (by omega)).trans (if_pos number)
  exact newFrame_moved (action.trans enter)
    (stepped.trans (Lcd.moved_newFrame s.cycle (composedRow s) mode number))

end due

/-- Settles O54: the copy's part, the six transitions, power-on, and the step that waits. -/
theorem modeTransitions : Obligations.ModeTransitions := by
  intro s
  refine ⟨lcdStep_copy s,
    fun due => ⟨scan_moved due, transfer_moved due, hblank_moved due, lastLine_moved due, vblank_moved due,
      lastBlank_moved due⟩, fun idle on => ?_, fun waits => ?_⟩
  · obtain ⟨action, stepped⟩ := modeStep_powerOn idle on
    exact newFrame_moved action stepped
  · exact (lcdStep_uncopied s).trans (modeStep_waits waits)

end Sys2Proof.Machine

/-! ## The length of a frame (R620, R626, R627), over the display controller alone -/

namespace Sys2Proof.Machine

/-! ### Waiting for the next action -/

/-- The display's registers but the quick-copy's index, and IF, are as before. -/
structure SameScreen (s t : State) : Prop where
  lcd   : ∃ k, t.lcd = { s.lcd with dmaIdx := k }
  iflag : t.iflag = s.iflag

theorem SameScreen.refl (s : State) : SameScreen s s := ⟨⟨s.lcd.dmaIdx, rfl⟩, rfl⟩

theorem SameScreen.trans {s t u : State} (h : SameScreen s t) (k : SameScreen t u) : SameScreen s u := by
  obtain ⟨i, first⟩ := h.lcd
  obtain ⟨j, second⟩ := k.lcd
  exact ⟨⟨j, by rw [second, first]⟩, k.iflag.trans h.iflag⟩

/-- A cycle in which the mode machine is not due changes nothing on the screen. -/
theorem lcdClock_waits {s : State} {n : Nat} (ahead : s.lcd.next = some n) (other : n ≠ s.cycle) :
    SameScreen s (lcdClock s) := by
  have waits := modeStep_waits (.inr ⟨n, ahead, other⟩)
  refine ⟨⟨dmaNext s.lcd.dmaIdx, ?_⟩, (lcdStep_iflag s).trans (congrArg State.iflag waits)⟩
  show (dmaStep (modeStep s)).lcd = _
  rw [dmaStep_lcd, waits]

theorem lcdClock_cycle (s : State) (k : Nat) : (lcdClock^[k] s).cycle = s.cycle + k := by
  induction k with
  | zero => rfl
  | succ k ih =>
    rw [Function.iterate_succ_apply']
    exact congrArg (· + 1) ih

/-- Up to the cycle of the next action nothing changes on the screen. -/
theorem lcdClock_iterate_waits {s : State} {w : Nat} (ahead : s.lcd.next = some (s.cycle + w)) {k : Nat} (le : k ≤ w) :
    SameScreen s (lcdClock^[k] s) := by
  induction k with
  | zero => exact SameScreen.refl s
  | succ k ih =>
    have before := ih (by omega)
    obtain ⟨i, lcd⟩ := before.lcd
    have clock := lcdClock_cycle s k
    rw [Function.iterate_succ_apply']
    exact before.trans (lcdClock_waits (n := s.cycle + w) (by rw [lcd]; exact ahead) (by omega))

/-! ### From one action to the next -/

/-- `w` cycles from `s` to `t`, none of those between due to leave the last line of the vertical blank. -/
structure Hop (w : Nat) (s t : State) : Prop where
  runs  : lcdClock^[w] s = t
  quiet : ∀ k, 0 < k → k < w → ¬FrameDue (lcdClock^[k] s)

theorem Hop.refl (s : State) : Hop 0 s s := ⟨rfl, fun _ _ lt => absurd lt (Nat.not_lt_zero _)⟩

theorem Hop.trans {w v : Nat} {s t u : State} (h : Hop w s t) (notDue : ¬FrameDue t) (k : Hop v t u) :
    Hop (w + v) s u := by
  have split (j : Nat) : lcdClock^[w + j] s = lcdClock^[j] t := by
    rw [Nat.add_comm, Function.iterate_add_apply, h.runs]
  refine ⟨(split v).trans k.runs, fun j positive lt => ?_⟩
  obtain before | rfl | ⟨i, rfl, after⟩ : j < w ∨ j = w ∨ ∃ i, j = w + i ∧ 0 < i := by
    obtain l | e | g := Nat.lt_trichotomy j w
    · exact .inl l
    · exact .inr (.inl e)
    · exact .inr (.inr ⟨j - w, by omega, by omega⟩)
  · exact h.quiet j positive before
  · rwa [h.runs]
  · rw [split]
    exact k.quiet i after (by omega)

/-- The mode machine is due, in a mode, on a line, with so many rows composed, and LCDC at a value. -/
structure Scene (lcdc : Byte) (m : BitVec 2) (line rows : Nat) (s : State) : Prop where
  due  : s.lcd.next = some s.cycle
  mode : s.lcd.mode = m
  line : s.lcd.ly.toNat = line
  rows : s.lcd.lineBuf.length = rows
  lcdc : s.lcd.lcdc = lcdc

/-- A scene other than the last line of the vertical blank. -/
theorem Scene.not_frameDue {lcdc : Byte} {m : BitVec 2} {line rows : Nat} {s : State}
    (h : Scene lcdc m line rows s) (other : m ≠ 1 ∨ line ≠ 153) : ¬FrameDue s := by
  rintro ⟨-, mode, last⟩
  obtain notBlank | notLast := other
  · exact notBlank (h.mode.symm.trans mode)
  · exact notLast (h.line.symm.trans (congrArg BitVec.toNat last))

/-- A transition, and the wait for the next. -/
theorem scene_hop {s : State} {m : BitVec 2} {n : Option Byte} {w : Nat} {rows image : List Row} {winY : Nat}
    (positive : 0 < w) (moved : LcdMoved s (lcdStep s) m n w) (frame : LcdFrame s (lcdStep s) rows winY image) :
    ∃ t, Hop w s t ∧ Scene s.lcd.lcdc m (n.getD s.lcd.ly).toNat rows.length t
      ∧ t.lcd.lineBuf = rows ∧ t.lcd.image = image ∧ t.iflag = (lcdStep s).iflag := by
  obtain ⟨v, rfl⟩ : ∃ v, w = v + 1 := ⟨w - 1, by omega⟩
  have ahead : (lcdClock s).lcd.next = some ((lcdClock s).cycle + v) :=
    moved.due.trans (congrArg some (Nat.add_right_comm s.cycle v 1))
  have waits (k : Nat) (le : k ≤ v) : SameScreen (lcdClock s) (lcdClock^[k + 1] s) := lcdClock_iterate_waits ahead le
  have lcdc : (lcdClock s).lcd.lcdc = s.lcd.lcdc := congrArg (fun u => u.lcd.lcdc) frame.rest
  obtain ⟨⟨i, lcd⟩, iflag⟩ := waits v (Nat.le_refl v)
  have clock := lcdClock_cycle s (v + 1)
  generalize last : lcdClock^[v + 1] s = t at lcd iflag clock
  refine ⟨t, ⟨last, fun k gt lt due => ?_⟩, ⟨?_, ?_, ?_, ?_, ?_⟩, ?_, ?_, iflag⟩
  · obtain ⟨j, rfl⟩ : ∃ j, k = j + 1 := ⟨k - 1, by omega⟩
    obtain ⟨_, same⟩ := (waits j (by omega)).lcd
    have now := due.1
    rw [same, lcdClock_cycle] at now
    have early := Option.some.inj (now.symm.trans moved.due)
    omega
  · rw [lcd, clock]
    exact moved.due
  · rw [lcd]
    exact moved.mode
  · rw [lcd]
    exact congrArg BitVec.toNat moved.line
  · rw [lcd]
    exact congrArg List.length frame.rows
  · rw [lcd]
    exact lcdc
  · rw [lcd]
    exact frame.rows
  · rw [lcd]
    exact frame.image

/-! ### The lines of a frame -/

/-- The frame built is the one published, and VBLANK has been requested. -/
def Shown (s : State) : Prop := s.lcd.image = s.lcd.lineBuf ∧ s.iflag.getLsbD 0 = true

section lines
variable {lcdc : Byte} {line rows : Nat} {s : State}

/-- MODE_2 and MODE_3 of a line. -/
theorem Scene.drawn (h : Scene lcdc 2 line rows s) : ∃ t, Hop 94 s t ∧ Scene lcdc 0 line (rows + 1) t := by
  obtain ⟨due, mode, rfl, rfl, rfl⟩ := h
  obtain ⟨moved, -, frame⟩ := scan_moved due mode
  obtain ⟨t, hop, scene, -, -, -⟩ := scene_hop (by decide) moved frame
  obtain ⟨moved', -, frame'⟩ := transfer_moved scene.due scene.mode
  obtain ⟨u, hop', scene', -, -, -⟩ := scene_hop (by decide) moved' frame'
  refine ⟨u, hop.trans (scene.not_frameDue (.inl (by decide))) hop', scene'.due, scene'.mode, ?_, ?_, ?_⟩
  · exact scene'.line.trans scene.line
  · exact scene'.rows.trans (scene.rows.trans List.length_append)
  · exact scene'.lcdc.trans scene.lcdc

/-- A visible line but the last. -/
theorem Scene.nextLine (h : Scene lcdc 2 line rows s) (visible : line < 143) :
    ∃ t, Hop 114 s t ∧ Scene lcdc 2 (line + 1) (rows + 1) t := by
  obtain ⟨t, hop, scene⟩ := h.drawn
  obtain ⟨due, mode, rfl, length, rfl⟩ := scene
  obtain ⟨moved, -, frame⟩ := hblank_moved due mode visible
  obtain ⟨u, hop', scene', -, -, -⟩ := scene_hop (by decide) moved frame
  refine ⟨u, hop.trans (fun d => absurd (mode.symm.trans d.2.1) (by decide)) hop', scene'.due, scene'.mode,
    scene'.line.trans (ly_succ (by omega)), scene'.rows.trans length, scene'.lcdc⟩

/-- The lines above line `j`. -/
theorem Scene.lines (h : Scene lcdc 2 0 0 s) (j : Nat) (le : j ≤ 143) :
    ∃ t, Hop (114 * j) s t ∧ Scene lcdc 2 j j t := by
  induction j with
  | zero => exact ⟨s, Hop.refl s, h⟩
  | succ j ih =>
    obtain ⟨t, hop, scene⟩ := ih (by omega)
    obtain ⟨u, hop', scene'⟩ := scene.nextLine (by omega)
    exact ⟨u, hop.trans (scene.not_frameDue (.inl (by decide))) hop', scene'⟩

/-- The horizontal blank of the last visible line: the frame is published (R624). -/
theorem Scene.published (h : Scene lcdc 0 143 rows s) : ∃ t, Hop 114 s t ∧ Scene lcdc 1 144 rows t ∧ Shown t := by
  obtain ⟨due, mode, last, rfl, rfl⟩ := h
  obtain ⟨moved, request, frame⟩ := lastLine_moved due mode (BitVec.eq_of_toNat_eq last)
  obtain ⟨t, hop, scene, built, image, iflag⟩ := scene_hop (by decide) moved frame
  refine ⟨t, hop, scene, image.trans built.symm, ?_⟩
  rw [iflag, request, BitVec.getLsbD_or]
  exact Bool.or_true _

/-- A line of the vertical blank but the last. -/
theorem Scene.nextBlank (h : Scene lcdc 1 line rows s) (shown : Shown s) (before : line < 153) :
    ∃ t, Hop 114 s t ∧ Scene lcdc 1 (line + 1) rows t ∧ Shown t := by
  obtain ⟨due, mode, rfl, rfl, rfl⟩ := h
  obtain ⟨moved, request, frame⟩ := vblank_moved due mode before
  obtain ⟨t, hop, scene, built, image, iflag⟩ := scene_hop (by decide) moved frame
  refine ⟨t, hop, ⟨scene.due, scene.mode, scene.line.trans (ly_succ (by omega)), scene.rows, scene.lcdc⟩,
    image.trans (shown.1.trans built.symm), ?_⟩
  rw [iflag, request, BitVec.getLsbD_or, shown.2, Bool.true_or]

/-- The first `j` lines of the vertical blank. -/
theorem Scene.blank (h : Scene lcdc 1 144 rows s) (shown : Shown s) (j : Nat) (le : j ≤ 9) :
    ∃ t, Hop (114 * j) s t ∧ Scene lcdc 1 (144 + j) rows t ∧ Shown t := by
  induction j with
  | zero => exact ⟨s, Hop.refl s, h, shown⟩
  | succ j ih =>
    obtain ⟨t, hop, scene, still⟩ := ih (by omega)
    obtain ⟨u, hop', scene', still'⟩ := scene.nextBlank still (by omega)
    exact ⟨u, hop.trans (scene.not_frameDue (.inr (by omega))) hop', scene', still'⟩

end lines

/-- The step that leaves the last line of the vertical blank enters line 0, MODE_2 (R626). -/
theorem FrameDue.entered {s : State} (h : FrameDue s) : (lcdClock s).lcd.mode = 2 ∧ (lcdClock s).lcd.ly = 0 := by
  obtain ⟨due, mode, line⟩ := h
  obtain ⟨moved, -, -⟩ := lastBlank_moved due mode line
  exact ⟨moved.mode, moved.line⟩

/-- A whole frame: 20 cycles, 143 lines, the last visible line, and the vertical blank. -/
theorem FrameDue.frame {s : State} (h : FrameDue s) :
    ∃ t, Hop 17556 s t ∧ Scene s.lcd.lcdc 1 153 144 t ∧ Shown t := by
  obtain ⟨due, mode, line⟩ := h
  obtain ⟨moved, -, frame⟩ := lastBlank_moved due mode line
  obtain ⟨a, hop0, first, -, -, -⟩ := scene_hop (by decide) moved frame
  obtain ⟨b, hop1, lastVisible⟩ := first.lines 143 (Nat.le_refl _)
  obtain ⟨c, hop2, drawn⟩ := lastVisible.drawn
  obtain ⟨d, hop3, published, shown⟩ := drawn.published
  obtain ⟨t, hop4, last, still⟩ := published.blank shown 9 (Nat.le_refl _)
  have toBlank : Hop (94 + (114 + 114 * 9)) b t :=
    hop2.trans (drawn.not_frameDue (.inl (by decide))) (hop3.trans (published.not_frameDue (.inr (by decide))) hop4)
  have whole : Hop (20 + (114 * 143 + (94 + (114 + 114 * 9)))) s t :=
    hop0.trans (first.not_frameDue (.inl (by decide))) (hop1.trans (lastVisible.not_frameDue (.inl (by decide))) toBlank)
  exact ⟨t, whole, last, still⟩

/-- Settles O55. -/
theorem frameTiming : Obligations.FrameTiming := by
  intro s h
  obtain ⟨t, hop, scene, image, vblank⟩ := h.frame
  have clock : t.cycle = s.cycle + 17556 := hop.runs ▸ lcdClock_cycle s 17556
  have again : FrameDue t := ⟨scene.due, scene.mode, BitVec.eq_of_toNat_eq scene.line⟩
  dsimp only
  rw [hop.runs]
  exact ⟨h.entered.1, h.entered.2, hop.quiet, again, clock, again.entered.1, again.entered.2, image,
    image ▸ scene.rows, vblank, scene.lcdc⟩

end Sys2Proof.Machine

/-! ## What a composed row reads (R630 to R655) -/

namespace Sys2Proof.Machine

/-- The bytes of VRAM and OAM are the same in both states. -/
def SameVideo (s t : State) : Prop :=
  ∀ a : Nat, (0x8000 ≤ a ∧ a < 0xA000) ∨ (0xFE00 ≤ a ∧ a < 0xFEA0) → t.mem.read a = s.mem.read a

section video
variable {s t : State} (lcd : t.lcd = s.lcd) (video : SameVideo s t)

include video in
theorem vramByte_congr {k : Nat} (inside : k < 0x2000) : vramByte t k = vramByte s k :=
  video _ (.inl (by omega))

include video in
theorem oamByte_congr {k : Nat} (inside : k < 160) : oamByte t k = oamByte s k :=
  video _ (.inr (by omega))

/-- A tile's 16 bytes lie in the first 0x1800 bytes of VRAM (R632). -/
theorem tileBase_le (n : Byte) (unsignedArea : Bool) : tileBase n unsignedArea ≤ 0x17F0 := by
  have byte := n.isLt
  unfold tileBase
  split <;> omega

include video in
/-- A tile's pixel reads two bytes of the tile. -/
theorem tilePixel_congr (n : Byte) {r : Nat} (row : r < 8) (col : Nat) (unsignedArea : Bool) :
    tilePixel t n r col unsignedArea = tilePixel s n r col unsignedArea := by
  have base := tileBase_le n unsignedArea
  rw [tilePixel, vramByte_congr video (by omega), vramByte_congr video (by omega)]
  rfl

/-- Where a tile map begins. -/
theorem mapBase_le (high : Bool) : mapBase high ≤ 0x1C00 := by cases high <;> decide

include lcd video

theorem backgroundPixel_congr (line x : Nat) : backgroundPixel t line x = backgroundPixel s line x := by
  unfold backgroundPixel
  rw [lcd]
  have base := mapBase_le (s.lcd.lcdc.getLsbD 3)
  split
  · dsimp only
    rw [vramByte_congr video (by omega), tilePixel_congr video _ (by omega)]
  · rfl

/-- The window's row counter stays below its plane's 256 rows, and its columns below the screen's. -/
theorem windowPixel_congr (counter : s.lcd.winY ≤ 144) {x : Nat} (column : x < 160) : windowPixel t x = windowPixel s x := by
  unfold windowPixel
  rw [lcd]
  have base := mapBase_le (s.lcd.lcdc.getLsbD 6)
  dsimp only
  rw [vramByte_congr video (by omega), tilePixel_congr video _ (by omega)]

theorem spritePixel_congr {k : Nat} (sprite : k < 40) (line x : Nat) : spritePixel t k line x = spritePixel s k line x := by
  unfold spritePixel
  rw [lcd, oamByte_congr video (by omega), oamByte_congr video (by omega), oamByte_congr video (by omega),
    oamByte_congr video (by omega)]
  dsimp only
  rw [tilePixel_congr video _ (by omega)]

theorem layerPixel_congr {ks : List Nat} (sprites : ∀ k ∈ ks, k < 40) (line x : Nat) :
    layerPixel t ks line x = layerPixel s ks line x := by
  induction ks with
  | nil => rfl
  | cons k ks ih =>
    rw [layerPixel, layerPixel, spritePixel_congr lcd video (sprites k List.mem_cons_self),
      ih fun j mem => sprites j (List.mem_cons_of_mem k mem)]

theorem spriteHits_congr {k : Nat} (sprite : k < 40) (line : Nat) : spriteHits t line k = spriteHits s line k := by
  rw [spriteHits, oamByte_congr video (by omega), lcd]
  rfl

omit lcd in
theorem spriteBefore_congr {j k : Nat} (hj : j < 40) (hk : k < 40) : spriteBefore t j k = spriteBefore s j k := by
  rw [spriteBefore, oamByte_congr video (by omega), oamByte_congr video (by omega)]
  rfl

omit lcd in
theorem insertSprite_congr {k : Nat} (sprite : k < 40) {ks : List Nat} (sprites : ∀ j ∈ ks, j < 40) :
    insertSprite t k ks = insertSprite s k ks := by
  induction ks with
  | nil => rfl
  | cons j ks ih =>
    rw [insertSprite, insertSprite, spriteBefore_congr video sprite (sprites j List.mem_cons_self),
      ih fun i mem => sprites i (List.mem_cons_of_mem j mem)]

omit lcd in
theorem sortSprites_congr {ks : List Nat} (sprites : ∀ k ∈ ks, k < 40) : sortSprites t ks = sortSprites s ks := by
  induction ks with
  | nil => rfl
  | cons k ks ih =>
    have rest : ∀ j ∈ ks, j < 40 := fun j mem => sprites j (List.mem_cons_of_mem k mem)
    rw [sortSprites, sortSprites, ih rest]
    exact insertSprite_congr video (sprites k List.mem_cons_self) fun j mem =>
      rest j ((sortSprites_perm s ks).mem_iff.mp mem)

end video

/-- A selected sprite is one of the 40, and lies on the line (R650). -/
theorem mem_spritesOn {s : State} {line k : Nat} (mem : k ∈ spritesOn s line) :
    k < 40 ∧ spriteHits s line k = true := by
  unfold spritesOn at mem
  split at mem
  · have hit := List.mem_filter.mp (List.mem_of_mem_take ((sortSprites_perm s _).mem_iff.mp mem))
    exact ⟨List.mem_range.mp hit.1, hit.2⟩
  · cases mem

section video
variable {s t : State} (lcd : t.lcd = s.lcd) (video : SameVideo s t)
include lcd video

theorem spritesOn_congr (line : Nat) : spritesOn t line = spritesOn s line := by
  have hits : (List.range 40).filter (spriteHits t line) = (List.range 40).filter (spriteHits s line) :=
    List.filter_congr fun k mem => spriteHits_congr lcd video (List.mem_range.mp mem) line
  rw [spritesOn, spritesOn, lcd, hits, sortSprites_congr video]
  exact fun k mem => List.mem_range.mp (List.mem_filter.mp (List.mem_of_mem_take mem)).1

end video

/-- Settles O59: layer by layer, every byte read is in VRAM or OAM. -/
theorem composeReadsVideoOnly : Obligations.ComposeReadsVideoOnly := by
  intro s t line lcd counter video
  have selected (k : Nat) (mem : k ∈ spritesOn s line) : k < 40 := (mem_spritesOn mem).1
  have behind : (spritesOn s line).filter (spriteBehind t) = (spritesOn s line).filter (spriteBehind s) :=
    List.filter_congr fun k mem => by
      have := selected k mem
      rw [spriteBehind, oamByte_congr video (by omega)]
      rfl
  have front : (spritesOn s line).filter (fun k => !spriteBehind t k)
      = (spritesOn s line).filter (fun k => !spriteBehind s k) :=
    List.filter_congr fun k mem => by
      have := selected k mem
      rw [spriteBehind, oamByte_congr video (by omega)]
      rfl
  unfold composeLine
  dsimp only
  rw [spritesOn_congr lcd video, behind, front]
  refine List.map_congr_left fun x mem => ?_
  have column : x < 160 := List.mem_range.mp mem
  have layer (p : Nat → Bool) := layerPixel_congr lcd video (ks := (spritesOn s line).filter p)
    (fun k mem => selected k (List.mem_filter.mp mem).1) line x
  unfold composePixel
  rw [backgroundPixel_congr lcd video, windowPixel_congr lcd video counter column, layer, layer, lcd]

end Sys2Proof.Machine

/-! ## What a composed row shows (R630 to R655) -/

namespace Sys2Proof.Machine

/-- The pixel that shows a raw colour through a palette, opaque where the raw colour is not 0. -/
def shown (p : Byte) (raw : Colour) : Pixel := { colour := pal p raw, solid := raw != 0 }

/-- A palette's entry as a number (R633). -/
theorem toNat_pal (p : Byte) (k : Colour) : (pal p k).toNat = paletteLaw p k.toNat := by
  rw [pal, BitVec.extractLsb'_toNat, Nat.shiftRight_eq_div_pow, Nat.pow_mul]
  rfl

theorem toNat_ofBool_getLsbD (b : Byte) (i : Nat) : (BitVec.ofBool (b.getLsbD i)).toNat = b.toNat / 2 ^ i % 2 := by
  rw [BitVec.toNat_ofBool]
  exact Nat.toNat_testBit b.toNat i

/-- A tile's bus address, inside VRAM: the index as a signed byte counts from 0x9000 (R632). -/
theorem tileLaw_eq (t : Byte) (r : Nat) (unsignedArea : Bool) :
    tileLaw t r unsignedArea = 0x8000 + (tileBase t unsignedArea + 2 * r) := by
  have byte := t.isLt
  cases unsignedArea with
  | true => exact Nat.add_assoc ..
  | false =>
    have signed := BitVec.toInt_eq_toNat_cond t
    simp only [tileLaw, tileBase, Bool.false_eq_true, if_false]
    split at signed <;> omega

/-- A tile's pixel as a number (R632). -/
theorem toNat_tilePixel (s : State) (t : Byte) (r col : Nat) (unsignedArea : Bool) :
    (tilePixel s t r col unsignedArea).toNat = rawLaw s (tileLaw t r unsignedArea) col := by
  rw [tilePixel, BitVec.toNat_append, toNat_ofBool_getLsbD, toNat_ofBool_getLsbD, rawLaw, tileLaw_eq]
  have bit : (vramByte s (tileBase t unsignedArea + 2 * r)).toNat / 2 ^ (7 - col) % 2 < 2 ^ 1 := Nat.mod_lt _ Nat.two_pos
  rw [← Nat.shiftLeft_add_eq_or_of_lt bit, Nat.shiftLeft_eq, Nat.mul_comm]
  rfl

/-- A shown tile pixel obeys R632 and R633. -/
theorem shows_tilePixel (s : State) (p t : Byte) (r col : Nat) (unsignedArea : Bool) :
    Shows (shown p (tilePixel s t r col unsignedArea)) p (rawLaw s (tileLaw t r unsignedArea) col) := by
  rw [← toNat_tilePixel]
  refine ⟨toNat_pal p _, ?_⟩
  rw [shown, bne_iff_ne, Ne, ← BitVec.toNat_inj]
  rfl

theorem clear_clearPixel : Clear clearPixel := ⟨rfl, rfl⟩

/-- The byte of a tile map, by its offset in VRAM. -/
theorem mapLaw_eq (s : State) (high : Bool) (px py : Nat) :
    mapLaw s high px py = vramByte s (mapBase high + 32 * (py / 8) + px / 8) := by
  have address : (if high then 0x9C00 else 0x9800) = 0x8000 + mapBase high := by cases high <;> rfl
  rw [mapLaw, address, vramByte, Nat.add_assoc, Nat.add_assoc, Nat.add_assoc]

/-! ### The layers -/

theorem backgroundLaw (s : State) (line x : Nat) : BackgroundLaw s line x (backgroundPixel s line x) := by
  refine ⟨fun off => ?_, fun on => ?_⟩
  · rw [backgroundPixel, if_neg (Bool.eq_false_iff.mp off)]
    exact clear_clearPixel
  · rw [backgroundPixel, if_pos on, mapLaw_eq]
    exact shows_tilePixel ..

theorem windowLaw (s : State) (x : Nat) : WindowLaw s x (windowPixel s x) := by
  rw [WindowLaw, mapLaw_eq, ← toNat_tilePixel, ← toNat_pal]
  rfl

/-- The row of sprite `k` that the line meets, with the vertical flip (R651). -/
def spriteRow (s : State) (k line : Nat) : Nat :=
  if (oamByte s (4 * k + 3)).getLsbD 6 then spriteHeight s.lcd - 1 - (line + 16 - (oamByte s (4 * k)).toNat)
  else line + 16 - (oamByte s (4 * k)).toNat

/-- The column of sprite `k` at pixel `x`, with the horizontal flip (R651). -/
def spriteCol (s : State) (k x : Nat) : Nat :=
  if (oamByte s (4 * k + 3)).getLsbD 5 then 7 - (x + 8 - (oamByte s (4 * k + 1)).toNat)
  else x + 8 - (oamByte s (4 * k + 1)).toNat

/-- The tile that holds row `row` of sprite `k`: of a tall sprite the even one or the odd one (R651). -/
def spriteTile (s : State) (k row : Nat) : Byte :=
  if spriteHeight s.lcd = 16 then (oamByte s (4 * k + 2) &&& 0xFE) + BitVec.ofNat 8 (row / 8)
  else oamByte s (4 * k + 2)

/-- A sprite that lies on the line reaches from 16 above its Y for its height. -/
theorem spriteHits_iff (s : State) (line k : Nat) : spriteHits s line k = true ↔
    (oamByte s (4 * k)).toNat ≤ line + 16 ∧ line + 16 < (oamByte s (4 * k)).toNat + spriteHeight s.lcd := by
  rw [spriteHits_eq, ← spriteHeight_cast, decide_eq_true_iff]
  omega

theorem spriteRow_lt {s : State} {line k : Nat} (hit : spriteHits s line k = true) :
    spriteRow s k line < spriteHeight s.lcd := by
  have reach := (spriteHits_iff s line k).mp hit
  unfold spriteRow
  split <;> omega

/-- Left of a sprite's first column and right of its last it is not seen. -/
theorem spritePixel_outside {s : State} {k x : Nat} (line : Nat)
    (outside : x + 8 < (oamByte s (4 * k + 1)).toNat ∨ (oamByte s (4 * k + 1)).toNat + 7 < x + 8) :
    spritePixel s k line x = clearPixel := if_pos (by omega)

/-- On its eight columns a sprite that lies on the line shows its tile; no number of R651 is negative there. -/
theorem spritePixel_inside {s : State} {k line x : Nat} (hit : spriteHits s line k = true)
    (left : (oamByte s (4 * k + 1)).toNat ≤ x + 8) (right : x + 8 ≤ (oamByte s (4 * k + 1)).toNat + 7) :
    spritePixel s k line x = shown (if (oamByte s (4 * k + 3)).getLsbD 4 then s.lcd.obp1 else s.lcd.obp0)
      (tilePixel s (spriteTile s k (spriteRow s k line)) (spriteRow s k line % 8) (spriteCol s k x) true) := by
  have reach := (spriteHits_iff s line k).mp hit
  have row : (if (oamByte s (4 * k + 3)).getLsbD 6 then
      (spriteHeight s.lcd : Int) - 1 - ((line : Int) - ((oamByte s (4 * k)).toNat - 16))
      else (line : Int) - ((oamByte s (4 * k)).toNat - 16)) = (spriteRow s k line : Int) := by
    unfold spriteRow
    split <;> omega
  have col : (if (oamByte s (4 * k + 3)).getLsbD 5 then 7 - ((x : Int) - ((oamByte s (4 * k + 1)).toNat - 8))
      else (x : Int) - ((oamByte s (4 * k + 1)).toNat - 8)) = (spriteCol s k x : Int) := by
    unfold spriteCol
    split <;> omega
  have tile : BitVec.ofInt 8 ((spriteRow s k line : Int) / 8) = BitVec.ofNat 8 (spriteRow s k line / 8) :=
    BitVec.ofInt_ofNat ..
  have line8 : ((spriteRow s k line : Int) % 8).toNat = spriteRow s k line % 8 := by omega
  rw [spritePixel, if_neg (by omega)]
  dsimp only
  rw [row, col, tile, line8, Int.toNat_natCast]
  rfl

/-- Clearing bit 0 of a tile name gives the even tile. -/
theorem toNat_and_even (t : Byte) : (t &&& 0xFE).toNat = 2 * (t.toNat / 2) := by
  revert t
  decide

theorem toNat_spriteTile {s : State} {k row : Nat} (inside : row < spriteHeight s.lcd) :
    (spriteTile s k row).toNat = if s.lcd.lcdc.getLsbD 2 then 2 * ((oamByte s (4 * k + 2)).toNat / 2) + row / 8
      else (oamByte s (4 * k + 2)).toNat := by
  have byte := (oamByte s (4 * k + 2)).isLt
  unfold spriteTile
  unfold spriteHeight at inside ⊢
  cases tall : s.lcd.lcdc.getLsbD 2 with
  | false => rfl
  | true =>
    rw [if_pos tall] at inside
    rw [if_pos rfl, if_pos rfl, if_pos rfl, BitVec.toNat_add, toNat_and_even, BitVec.toNat_ofNat]
    omega

theorem spriteLaw {s : State} {line k : Nat} (hit : spriteHits s line k = true) (x : Nat) :
    SpriteLaw s k line x (spritePixel s k line x) := by
  refine ⟨fun outside => ?_, fun left right => ?_⟩
  · rw [spritePixel_outside line outside]
    exact clear_clearPixel
  · have law := shows_tilePixel s (if (oamByte s (4 * k + 3)).getLsbD 4 then s.lcd.obp1 else s.lcd.obp0)
      (spriteTile s k (spriteRow s k line)) (spriteRow s k line % 8) (spriteCol s k x) true
    have height : spriteHeight s.lcd - 1 = if s.lcd.lcdc.getLsbD 2 then 15 else 7 := by
      unfold spriteHeight
      split <;> rfl
    rw [tileLaw, if_pos rfl, toNat_spriteTile (spriteRow_lt hit), ← spritePixel_inside hit left right, spriteRow,
      height] at law
    exact law

/-- A layer is its first opaque sprite (R652). -/
theorem layerPixel_eq_find (s : State) (ks : List Nat) (line x : Nat) : layerPixel s ks line x
    = ((ks.map (fun k => spritePixel s k line x)).find? (fun p => p.solid)).getD clearPixel := by
  induction ks with
  | nil => rfl
  | cons k ks ih =>
    rw [layerPixel, List.map_cons, List.find?_cons, ih]
    split <;> simp [*]

/-! ### The merge (R655) -/

theorem composePixel_front {s : State} {behind front : List Nat} {line x : Nat}
    (solid : (layerPixel s front line x).solid = true) :
    composePixel s behind front line x = (layerPixel s front line x).colour := if_pos solid

section behindFront
variable {s : State} {behind front : List Nat} {line x : Nat} (seen : (layerPixel s front line x).solid = false)
include seen

theorem composePixel_window (window : windowActive s.lcd line = true ∧ windowLeft s.lcd ≤ x) :
    composePixel s behind front line x = windowPixel s x := by
  simp [composePixel, seen, window]

variable (noWindow : ¬(windowActive s.lcd line = true ∧ windowLeft s.lcd ≤ x))
include noWindow

theorem composePixel_behind (clear : (backgroundPixel s line x).solid = false)
    (solid : (layerPixel s behind line x).solid = true) :
    composePixel s behind front line x = (layerPixel s behind line x).colour := by
  simp [composePixel, seen, noWindow, clear, solid]

theorem composePixel_background
    (top : (backgroundPixel s line x).solid = true ∨ (layerPixel s behind line x).solid = false) :
    composePixel s behind front line x = (backgroundPixel s line x).colour := by
  rcases top with solid | clear
  · simp [composePixel, seen, noWindow, solid]
  · simp [composePixel, seen, noWindow, clear]

end behindFront

/-- The window shows at `x` (R640, R655). -/
theorem window_iff (d : Lcd) (line x : Nat) : windowActive d line = true ∧ windowLeft d ≤ x ↔
    d.lcdc.getLsbD 5 = true ∧ d.wx.toNat - 7 < 160 ∧ d.wy.toNat ≤ line ∧ d.wx.toNat - 7 ≤ x := by
  have onScreen : d.wx.toNat < 167 ↔ d.wx.toNat - 7 < 160 := by omega
  rw [windowActive_iff, windowLeft, onScreen, and_assoc, and_assoc]

theorem composeLine_getElem? (s : State) (line : Nat) {x : Nat} (column : x < 160) : (composeLine s line)[x]?
    = some (composePixel s ((spritesOn s line).filter (spriteBehind s))
      ((spritesOn s line).filter fun k => !spriteBehind s k) line x) := by
  rw [composeLine, List.getElem?_map, show (List.range Config.lcdWidth)[x]? = some x from List.getElem?_range column]
  rfl

/-- Settles O58: the merge case by case, and the law of each layer. -/
theorem Settled.composedRow : Obligations.ComposedRow := by
  intro s line
  refine ⟨composeLine_length s line, fun x column => ⟨_, composeLine_getElem? s line column, composePixel_front,
    fun seen => ⟨fun window => ?_, fun noWindow => ⟨?_, ?_⟩⟩⟩, fun x _ => ?_⟩
  · exact composePixel_window seen ((window_iff s.lcd line x).mpr window)
  · exact composePixel_behind seen (mt (window_iff s.lcd line x).mp noWindow)
  · exact composePixel_background seen (mt (window_iff s.lcd line x).mp noWindow)
  · exact ⟨backgroundLaw s line x, fun _ => windowLaw s x, fun k mem => spriteLaw (mem_spritesOn mem).2 x,
      fun ks => layerPixel_eq_find s ks line x⟩

end Sys2Proof.Machine
